-- ==== Sys2Proof/Word.lean ====
section
/-! DEFINITION. The bit-vector words of the KC-62 and their plainest arithmetic: the manual's counts,
item IDs, sets and bytes (00_scope "Conventions", R51, R188). -/

namespace Sys2Proof

/-- A byte, as it stands in a frame, a request, a response or the configuration image (R188). -/
abbrev Byte := BitVec 8

/-- A frame count: 32 bits, wrapping from 2^32 − 1 to 0 (R50, R188). -/
abbrev Count := BitVec 32

/-- An item ID as carried: 2 bytes; 0 and 65,535 name no item (00_scope, R188). -/
abbrev ItemId := BitVec 16

/-- A role set: bit 0 DIRECTOR, 1 GRAPHICS, 2 CLIP, 3 PROMPTER, 4 AUDIO, 5 CAMERA, 6 FLOOR, 7 DISPLAY (R188). -/
abbrev RoleSet := BitVec 8

/-- A station set: bit k stands for station k, bits 0 and 31 always 0 (R188). -/
abbrev StationSet := BitVec 32

/-- The identity of a part: 48 bits (R139). -/
abbrev Identity := BitVec 48

/-- The modular difference b − a of two counts, read as a signed number (R51). -/
def Count.diff (a b : Count) : Int := (b - a).toInt

/-- "a is before b" (R51). -/
def Count.before (a b : Count) : Bool := decide (0 < Count.diff a b)

/-- "a is at or before b" (R51). -/
def Count.atOrBefore (a b : Count) : Bool := decide (0 ≤ Count.diff a b)

/-- The later of two counts, read as R51 requires. -/
def Count.later (a b : Count) : Count := if Count.before a b then b else a

end Sys2Proof
end

