-- ==== Sys2Proof/Syntax.lean ====
section
/-! DEFINITION. The commands of the KC-62: one constructor of `Instr` for each row of spec/opcode_table.json,
with the operands that the row's step takes from the world (log entries 1 and 2). -/

namespace Sys2Proof

/-- The bits of one frame on the gallery line, up to its check field, field by field (R104).  The start bit
is left out, since it is always dominant. -/
structure Wire where
  /-- 3 bits, fixed by the kind. -/
  urgency : BitVec 3
  /-- 5 bits: the sender's station number, or the candidate of a CLAIM. -/
  sender : BitVec 5
  /-- 5 bits: the kind code of R189. -/
  kind : BitVec 5
  /-- The address mode: false for a role mask, true for a station number. -/
  byNumber : Bool
  /-- 8 bits: a role mask, or a station number in the low five bits. -/
  address : Byte
  /-- 4 bits: the body length in bytes. -/
  length : BitVec 4
  /-- The body bytes, in the order sent. -/
  body : List Byte
  /-- 16 bits: the check of R105. -/
  check : BitVec 16
deriving DecidableEq, Repr

/-- One frame as this station receives it from another: what it reads up to the check field, then the roll-call
slots it reads dominant, and how many frame pulses fell between the start bit and the end of the check field
(R35 reckons a TAKE's air frame from the pulse that began the period of the start bit). -/
structure RxFrame where
  wire : Wire
  /-- Bit k is set when slot k reads dominant (R111). -/
  slots : StationSet
  /-- Frame pulses between the start bit and the end of the check field. -/
  startAgo : Nat
deriving DecidableEq, Repr

/-- Where, in the order of one frame pulse, the recognised operator inputs reach the Take Engine: R57 and R98
leave that order to the world. -/
inductive HandOffPlace where
  /-- Before the pulse's fire-line steps and take execution. -/
  | first
  /-- After the take execution, before the queue pass. -/
  | afterTake
  /-- Within the queue pass, after this many of its entries (R98). -/
  | amid (entries : Nat)
  /-- After the queue pass, before the recomputation. -/
  | afterPass
deriving DecidableEq, Repr

/-- What the world brings with one frame pulse: the levels of the three operator inputs as sampled (R56), and
the orders that R57, R97 and R98 leave to the world. -/
structure Pulse where
  /-- The sampled level of TAKE. -/
  take : Bool
  /-- The sampled level of FORCE. -/
  force : Bool
  /-- The sampled level of LOCAL. -/
  localSw : Bool
  /-- Where the recognised transitions are handed on. -/
  place : HandOffPlace
  /-- Whether a LOCAL transition is handed on before a take request of the same pulse. -/
  localFirst : Bool
  /-- Whether the world brings other steps between the parts of this pulse: false runs the whole pulse in this
  one step, true leaves the parts that have something to do to their own commands (log entry 3). -/
  divided : Bool
deriving DecidableEq, Repr

/-- The commands of the KC-62, in the order of spec/opcode_table.json. -/
inductive Instr where
  /-- POWER_ON: power is applied; `resetHeld` is the level of the RESET input then (R180). -/
  | powerOn (resetHeld : Bool)
  /-- RESET_ACTIVE: the RESET input goes active (R180). -/
  | resetActive
  /-- RESTART_END: RESET is inactive, the serial memory has answered with the bytes `image` (R182, R186). -/
  | restartEnd (image : List Byte)
  /-- FRAME_PULSE: a REF pulse in EXTERNAL status (R50). -/
  | framePulse (p : Pulse)
  /-- REF_LOST: no REF pulse for 1.5 T (R54). -/
  | refLost (p : Pulse)
  /-- INTERNAL_PULSE: the next whole nominal period of a loss (R54). -/
  | internalPulse (p : Pulse)
  /-- REF_BACK: the first REF pulse in FREE_RUN, `sinceInternal` microseconds after the most recent internal
  pulse (R55). -/
  | refBack (sinceInternal : Nat) (p : Pulse)
  /-- SET_TIME_APPLIED (R53). -/
  | setTimeApplied
  /-- TAKE_EXECUTION (R38, R39). -/
  | takeExecution
  /-- PRIME_EXECUTION (R90). -/
  | primeExecution
  /-- GO_EXECUTION (R91). -/
  | goExecution
  /-- PULSE_END on one fire line (R89, R92). -/
  | pulseEnd (line : Nat)
  /-- LEVEL_HOLD_END on one fire line (R89, R94). -/
  | levelHoldEnd (line : Nat)
  /-- POLL_TIMEOUT (R152). -/
  | pollTimeout
  /-- CLAIM_RESUBMIT (R140, R166). -/
  | claimResubmit
  /-- LINE_IDLE: the bit times `bits` are read (true for dominant), then recessive ones until the line is IDLE (R103). -/
  | lineIdle (bits : List Bool)
  /-- LINE_STUCK: the bit times `bits` are read, then dominant ones until the run reaches 64 (R110). -/
  | lineStuck (bits : List Bool)
  /-- SEND_OPPORTUNITY (R103, R159). -/
  | sendOpportunity
  /-- CONTENTION_LOST: the bit times `bits` of the attempt under way are read (true for dominant), one of which loses it
  (R107, R108). -/
  | contentionLost (bits : List Bool)
  /-- COLLISION (R109). -/
  | collision
  /-- ATTEMPT_SENT: the attempt reached the end of its roll-call field with `slots` read dominant (R115). -/
  | attemptSent (slots : StationSet)
  /-- FRAME_NOT_HEARD (R106). -/
  | frameNotHeard (f : RxFrame)
  /-- TAKE_FRAME (R35). -/
  | takeFrame (f : RxFrame)
  /-- CLEAR_FRAME (R43). -/
  | clearFrame (f : RxFrame)
  /-- STANDBY_FRAME (R41). -/
  | standbyFrame (f : RxFrame)
  /-- HOLD_FRAME (R44). -/
  | holdFrame (f : RxFrame)
  /-- RESUME_FRAME (R45). -/
  | resumeFrame (f : RxFrame)
  /-- STRETCH_FRAME (R22). -/
  | stretchFrame (f : RxFrame)
  /-- CUE_FRAME (R72). -/
  | cueFrame (f : RxFrame)
  /-- SWEEP_FRAME (R127). -/
  | sweepFrame (f : RxFrame)
  /-- ATTENTION_FRAME (R153). -/
  | attentionFrame (f : RxFrame)
  /-- DROP_FRAME (R20). -/
  | dropFrame (f : RxFrame)
  /-- FLOAT_FRAME (R21). -/
  | floatFrame (f : RxFrame)
  /-- RESTORE_FRAME (R21). -/
  | restoreFrame (f : RxFrame)
  /-- POLL_FRAME (R132). -/
  | pollFrame (f : RxFrame)
  /-- STATUS_FRAME (R134). -/
  | statusFrame (f : RxFrame)
  /-- LOCKOUT_FRAME (R46). -/
  | lockoutFrame (f : RxFrame)
  /-- RELEASE_FRAME (R46). -/
  | releaseFrame (f : RxFrame)
  /-- ANNOUNCE_FRAME (R137). -/
  | announceFrame (f : RxFrame)
  /-- CLAIM_FRAME (R148). -/
  | claimFrame (f : RxFrame)
  /-- PORT_READ: a read transfer of `count` bytes (R190). -/
  | portRead (count : Nat)
  /-- BAD_REQUEST_FRAME: a request transfer with an unknown code or a wrong length, whole (R169). -/
  | badRequestFrame (bytes : List Byte)
  /-- LOAD ITEM, code 0x01 (R11). -/
  | loadItem (item : ItemId) (duration hardOut : BitVec 24) (basis : Byte) (anchor : ItemId)
  /-- AMEND ITEM, code 0x02 (R12). -/
  | amendItem (item : ItemId) (duration : BitVec 24) (action : Byte) (hardOut : BitVec 24) (basis : Byte)
  /-- MOVE ITEM, code 0x03 (R13). -/
  | moveItem (item anchor : ItemId)
  /-- DELETE ITEM, code 0x04 (R14). -/
  | deleteItem (item : ItemId)
  /-- LOAD ELEMENT, code 0x05 (R15, R16). -/
  | loadElement (item : ItemId) (element anchor : Byte) (offset : BitVec 16) (preRoll needsReady target : Byte)
      (duration : BitVec 16) (takeOff : Byte)
  /-- DELETE ELEMENT, code 0x06 (R17). -/
  | deleteElement (item : ItemId) (element : Byte)
  /-- SET READY, code 0x07 (R7). -/
  | setReady (item : ItemId) (element value : Byte)
  /-- FLOAT, code 0x08 (R18). -/
  | floatRequest (item : ItemId)
  /-- RESTORE, code 0x09 (R18). -/
  | restoreRequest (item : ItemId)
  /-- SEND, code 0x0A (R119). -/
  | send (kind mode address forced : Byte) (body : List Byte)
  /-- TAKE NEXT, code 0x0B (R30). -/
  | takeNext (forced : Byte)
  /-- STANDBY NEXT, code 0x0C (R42). -/
  | standbyNext
  /-- SET CONTROL, code 0x0D (R46). -/
  | setControl (value : Byte)
  /-- SET TIME, code 0x0E (R53). -/
  | setTime (tod : BitVec 24)
  /-- CALL, code 0x0F (R129). -/
  | call (item : ItemId)
  /-- READ ITEM, code 0x10 (R23). -/
  | readItem (selector : Byte) (value : BitVec 16)
  /-- READ TIMING, code 0x11 (R170). -/
  | readTiming (start : Byte)
  /-- READ PEERS, code 0x12 (R150). -/
  | readPeers
  /-- READ SWEEP, code 0x13 (R151). -/
  | readSweep
  /-- READ POLL, code 0x14 (R152). -/
  | readPoll
  /-- READ ATTENTION, code 0x15 (R154). -/
  | readAttention
  /-- ACK ATTENTION, code 0x16 (R154). -/
  | ackAttention (sender reason : Byte)
  /-- FETCH EVENTS, code 0x17 (R173). -/
  | fetchEvents (most : Byte)
  /-- FETCH SUMMARY, code 0x18 (R177). -/
  | fetchSummary
  /-- ACK FLAGS, code 0x19 (R178). -/
  | ackFlags (flags : BitVec 24)
  /-- SET GROUP ENABLES, code 0x1A (R176). -/
  | setGroupEnables (enables : Byte)
  /-- READ RESTART, code 0x1B (R171). -/
  | readRestart
  /-- RESTART, code 0x1C (R171). -/
  | restartRequest (kind : Byte)
  /-- END_FIELD_DOMINANT_BIT (R106). -/
  | endFieldDominantBit
deriving DecidableEq, Repr

end Sys2Proof
end

