-- ==== Sys2Proof/Config.lean ====
section
/-! DEFINITION. What a KC-62 has fixed: its capacities, the configuration values with their defaults (R183), the
figures of each frame rate (R52), and the one value that the manual leaves open. -/

namespace Sys2Proof.Config

/-- Items in the run list at most (R1). -/
def maxItems : Nat := 96
/-- Element records in the pool at most (R1). -/
def maxElements : Nat := 256
/-- Elements of one item at most (R1). -/
def maxElementsPerItem : Nat := 16
/-- The longest planned duration (00_scope, R2). -/
def maxDuration : Nat := 262143
/-- Entries of the fire queue at most (R79). -/
def fireCapacity : Nat := 32
/-- Frames of the air queue at most (R156). -/
def airCapacity : Nat := 8
/-- Frames of the routine queue at most (R156). -/
def routineCapacity : Nat := 16
/-- Records of the event FIFO at most (R172). -/
def fifoCapacity : Nat := 32
/-- Records of the attention list at most (R153). -/
def attentionCapacity : Nat := 16
/-- The largest value of a counter of bytes: overruns, overflows, late frames (R6, R168, R172). -/
def byteMax : Nat := 255
/-- The largest reported sum of durations (R65, R69). -/
def sumMax : Nat := 16777215
/-- The bound of U and of C, both signs (R67, R70). -/
def overMax : Int := 8388607
/-- The largest elapsed and actual duration: 2^31 − 1 (R2, R62). -/
def spanMax : Nat := 2147483647

/-- The configuration values in use, one for each field of the image (R183), in the image's order (R192). -/
structure Values where
  /-- 0 for "any", 1 … 30. -/
  preferred : Nat
  roles : RoleSet
  /-- The code of the line rate: 125, 250, 500, 1,000 kbit/s. -/
  lineRate : Nat
  /-- The code of the frame rate: 24, 25, 30, 50, 60. -/
  frameRate : Nat
  takeLead : Nat
  retryLimit : Nat
  absentLimit : Nat
  guard : Bool
  guardRoles : RoleSet
  /-- Bit s for ring slot s, set for AIR. -/
  ring : Byte
  upper : Nat
  lower : Nat
  wrapTime : Nat
  finalTime : Nat
  overTolerance : Nat
  overAlarmTime : Nat
  pollTimeout : Nat
  /-- Bit n for FLn, set for LEVEL. -/
  lineModes : Byte
  /-- Bit 0 TAKE, 1 FORCE, 2 LOCAL; set for enabled. -/
  inputEnables : BitVec 3
  /-- Bits 0 to 4 for TAKE, LINE, PEER, FIRE, TIME; set for enabled. -/
  groupEnables : BitVec 5
deriving DecidableEq, Repr

/-- The defaults of R183, and the default ring pattern 0x77 of R192. -/
def defaults : Values where
  preferred := 0
  roles := 0
  lineRate := 1
  frameRate := 1
  takeLead := 4
  retryLimit := 3
  absentLimit := 3
  guard := false
  guardRoles := 0
  ring := 0x77
  upper := 14
  lower := 8
  wrapTime := 30
  finalTime := 10
  overTolerance := 5
  overAlarmTime := 10
  pollTimeout := 3
  lineModes := 0
  inputEnables := 0b111
  groupEnables := 0b11111

/-- The identity that `State.reset` holds (DESIGN CHOICE, unsafe, log entry 5: R139 fixes one in each part and
gives no value; no statement rests on it). -/
def resetIdentity : Identity := 0

/-- FREE VALUE (safe, log entry 6): the actual duration of an item that leaves the air more than 2^31 − 1 frames
after its air start.  R2 gives the field the range 0 … 2^31 − 1, which the type keeps, and states no value past it.
The first argument is the air frame of the take that takes the item off, the second the item's S. -/
opaque actualBeyond : Count → Count → BitVec 31

end Sys2Proof.Config
end

