-- ==== Sys2Proof/Machine/State.lean ====
section
/-! DEFINITION. The state of the KC-62, block by block as 00_scope "Block overview" gives it, the reasons a step can
stop, and the state in which power-on leaves the part. -/

namespace Sys2Proof.Machine

/-! ### The values of the Run List Store (chapter 1) -/

/-- The state of an item (R3). -/
inductive ItemState where
  | waiting | standby | onAir | aired | floated
deriving DecidableEq, Repr

/-- The cue basis of an item (R2). -/
inductive CueBasis where
  | item | segment
deriving DecidableEq, Repr

/-- The anchor of an element (R4). -/
inductive Anchor where
  | start | ending
deriving DecidableEq, Repr

/-- The target of an element (R4). -/
inductive Target where
  | line (n : Nat)
  | event
  | both (n : Nat)
deriving DecidableEq, Repr

/-- The take-off behaviour of an element (R4). -/
inductive TakeOff where
  | cancel | force
deriving DecidableEq, Repr

/-- The state of an element (R5). -/
inductive ElementState where
  | idle | primed | scheduled | held | fired | skipped | suppressed
deriving DecidableEq, Repr

/-- An element record (R4). -/
structure Element where
  id : Nat
  anchor : Anchor
  offset : Nat
  preRoll : Nat
  needsReady : Bool
  ready : Bool
  target : Target
  duration : Nat
  takeOff : TakeOff
  state : ElementState
  primeFrame : Option Count
  remainder : Option Nat
  late : Nat
deriving DecidableEq, Repr

/-- An item record (R2). -/
structure Item where
  id : ItemId
  duration : Nat
  state : ItemState
  hardOut : Option Nat
  basis : CueBasis
  airStart : Option Count
  actual : Option Nat
  lateMark : Bool
  lateFrames : Nat
  held : Bool
  elements : List Element
deriving DecidableEq, Repr

/-- The Run List Store: item records in rundown order, each with its elements in element-ID order (R1).  The element
pool is what the items hold (log entry 8). -/
structure RunList where
  items : List Item
deriving DecidableEq, Repr

/-! ### The values of the Take Engine (chapter 2) -/

/-- The on-air pointer (R25); an OWN pointer names its item by ID, which follows the item (R1). -/
inductive OnAir where
  | none
  | own (item : ItemId)
  | foreign (item : ItemId) (carried : Nat) (start : Count)
deriving DecidableEq, Repr

/-- A pending take: the seven values of R27. -/
structure PendingTake where
  item : ItemId
  air : Count
  arrival : Count
  sender : Nat
  sequence : Byte
  carried : Nat
  late : Bool
  /-- MODEL'S OWN (log entry 9): the record that R33 formed for this station's own TAKE, and not one received by R35 or
  placed again by R36. -/
  made : Bool
deriving DecidableEq, Repr

/-- The control state (R46). -/
inductive Control where
  | remote | localControl | remoteLocked | localLocked
deriving DecidableEq, Repr

/-- The origin of a guarded take (R31). -/
inductive Origin where
  | takeInput | takeNext | send
deriving DecidableEq, Repr

/-- An address: a role mask or a station number (R104). -/
structure Address where
  byNumber : Bool
  value : Byte
deriving DecidableEq, Repr

/-- What a SEND of a TAKE gives for its frame (R31): its address, its requested lead and its carried duration,
absent for KEEP. -/
structure TakeTerms where
  address : Address
  lead : Nat
  carried : Option Nat
deriving DecidableEq, Repr

/-- The guarded-take record (R31). -/
structure GuardedTake where
  item : ItemId
  wasOwn : Bool
  origin : Origin
  terms : TakeTerms
  /-- MODEL'S OWN (log entry 41): the station has stopped being ACTIVE since the request (R145), whatever its mode is by
  the time its sweep ends. -/
  lapsed : Bool
deriving DecidableEq, Repr

/-- The Take Engine.  The guard state is IDLE when `guarded` is absent and SWEEPING when it is present; the
last-aired position is the head when `lastAired` is absent (section 2.1). -/
structure TakeEngine where
  onAir : OnAir
  standby : Option ItemId
  pendingTake : Option PendingTake
  lastAired : Option ItemId
  control : Control
  guarded : Option GuardedTake
deriving DecidableEq, Repr

/-! ### The values of the Frame Clock (chapter 3) -/

/-- The reference status (R50). -/
inductive RefStatus where
  | external | freeRun
deriving DecidableEq, Repr

/-- The recognised level of an operator input (R56). -/
inductive Level where
  | inactive | active | unsettled
deriving DecidableEq, Repr

/-- The filter of one operator input: the previous sample (absent for none) and the recognised level (R56). -/
structure InputFilter where
  previous : Option Bool
  level : Level
deriving DecidableEq, Repr

/-- The Frame Clock.  The loss timer counts half nominal periods T/2 and stands as of the most recent clock
command (log entry 10); the internal pulses are those of the present loss (R55). -/
structure FrameClock where
  count : Count
  offset : Option Nat
  pendingTime : Option Nat
  status : RefStatus
  lossTimer : Nat
  internalPulses : BitVec 32
  takeInput : InputFilter
  forceInput : InputFilter
  localInput : InputFilter
deriving DecidableEq, Repr

/-! ### The values of the Timing Computer (chapter 4) -/

/-- The stages of the presenter cue (section 4.1). -/
inductive Stage where
  | clear | wrap | final | out | over
deriving DecidableEq, Repr

/-- The segment status (R65). -/
inductive SegmentStatus where
  | closed | opened | noTime
deriving DecidableEq, Repr

/-- The on-air kind of a timing result (section 4.1). -/
inductive OnAirKind where
  | none | own | foreign
deriving DecidableEq, Repr

/-- One back-time entry: the item, the time of day and whether B_rel is below 0 (R68, R76). -/
structure BackTime where
  item : ItemId
  tod : Nat
  negative : Bool
deriving DecidableEq, Repr

/-- The values that a CLOSED segment gives, absent otherwise (section 4.1). -/
structure SegmentValues where
  hardOutItem : ItemId
  hardOut : Nat
  target : Nat
  sum : Nat
  overUnder : Int
  behind : Bool
  requiredEnd : Nat
  backTimes : List BackTime
deriving DecidableEq, Repr

/-- The timing result (section 4.1). -/
structure TimingResult where
  kind : OnAirKind
  item : ItemId
  elapsed : Option Nat
  remaining : Nat
  uncertain : Bool
  held : Bool
  status : SegmentStatus
  segment : Option SegmentValues
  toEnd : Nat
  countdown : Option Int
  stage : Stage
deriving DecidableEq, Repr

/-- The Timing Computer, with the three cue-lamp outputs LW, LF and LO (R73 to R75). -/
structure TimingComputer where
  result : Option TimingResult
  cueOverride : Option (ItemId × Stage)
  /-- The effective stage last held. -/
  stage : Stage
  lw : Bool
  lf : Bool
  lo : Bool
  overAlarm : Bool
deriving DecidableEq, Repr

/-! ### The values of the Fire Scheduler (chapter 5) -/

/-- The action of a fire-queue entry (R79). -/
inductive Action where
  | prime | go
deriving DecidableEq, Repr

/-- An entry of the fire queue (R79). -/
structure FireEntry where
  due : Count
  action : Action
  item : ItemId
  element : Nat
deriving DecidableEq, Repr

/-- The state of a fire line (R92): PULSING with the element that drove the pulse and the frame pulse at which it
began, HELD with the holding element and the end frame. -/
inductive FireLine where
  | inactive
  | pulsing (item : ItemId) (element : Nat) (begun : Count)
  | held (item : ItemId) (element : Nat) (ending : Count)
deriving DecidableEq, Repr

/-- The Fire Scheduler.  `lines` holds FL0 to FL7 in order; the line modes are those of the configuration values. -/
structure FireScheduler where
  queue : List FireEntry
  lines : List FireLine
  latch : Bool
deriving DecidableEq, Repr

/-! ### The frames and the Line Engine (chapters 6, 7 and 12) -/

/-- The eighteen frame kinds, in the order of their codes (R189). -/
inductive Kind where
  | take | clear | standby | hold | resume | stretch | cue | sweep | attention | drop | float | restore | poll
  | status | lockout | release | announce | claim
deriving DecidableEq, Repr

/-- The reasons of an ATTENTION (R128). -/
inductive Reason where
  | notReady | prerollShort | fireOverflow | operatorCall
deriving DecidableEq, Repr

/-- The body of a STATUS (R133). -/
structure StatusBody where
  control : Byte
  onAir : ItemId
  standby : ItemId
  pending : ItemId
  fireCount : Byte
  /-- U in 24 bits, 0x800000 when absent (R77). -/
  overUnder : BitVec 24
  groups : Byte
deriving DecidableEq, Repr

/-- The fields of a frame as submitted (R156): those of its kind, less the sequence number, the lead and the late
flag.  A TAKE keeps its air frame A, from which each attempt's lead is reckoned (R34). -/
inductive Payload where
  | take (item : ItemId) (carried : Nat) (air : Count)
  | clear
  | standby (item : ItemId)
  | hold (item : ItemId)
  | resume (item : ItemId)
  | stretch (item : ItemId) (delta : Int)
  | cue (item : ItemId) (stage : Byte)
  | sweep (item : ItemId)
  | attention (reason : Reason) (item : ItemId)
  | drop (item : ItemId)
  | float (item : ItemId)
  | restore (item : ItemId)
  | poll
  | status (body : StatusBody)
  | lockout
  | release
  | announce (identity : Identity) (roles : RoleSet) (control : Control) (onAir standby : ItemId)
  | claim (candidate : Nat) (identity : Identity) (roles : RoleSet)
deriving DecidableEq, Repr

/-- The submitter of a queue entry (R156). -/
inductive Submitter where
  | takeEngine | peerCensus | equipmentPort | automatic
deriving DecidableEq, Repr

/-- What the Line Engine keeps beside a frame in flight (R114, R115). -/
structure Flight where
  attempts : Nat
  expected : StationSet
  delivered : StationSet
deriving DecidableEq, Repr

/-- An entry of an outbound queue (R156).  It bears the in-flight mark when `flight` is present. -/
structure QueueEntry where
  payload : Payload
  address : Address
  sequence : Option Byte
  submitter : Submitter
  flight : Option Flight
  /-- MODEL'S OWN (log entry 9): the record that R33 formed for this TAKE is the one it placed last; it is the pending
  take while that one is `made`. -/
  tied : Bool
  /-- MODEL'S OWN (log entry 9): the pending-take record that R33 formed for this TAKE has been superseded by a
  record for another item. -/
  superseded : Bool
  /-- MODEL'S OWN (log entry 9): an attempt of this TAKE has been sent to the end of its check field. -/
  sentOnce : Bool
deriving DecidableEq, Repr

/-- The line phase (R103).  GAP counts recessive bit times; FRAME counts, once the roll-call field is past, the
bit times of the end field read so far (log entry 11). -/
inductive LinePhase where
  | gap (recessive : Nat)
  | idle
  | frame (endBits : Option Nat)
deriving DecidableEq, Repr

/-- The station's own part in the current frame (section 6 opening). -/
inductive LinePart where
  | none | contending | sending | listening
deriving DecidableEq, Repr

/-- The receive record: the current frame's fields as received, this station's own check of them, and its
acceptance decision, absent for a frame that is not heard (R106, R112). -/
structure RxRecord where
  wire : Wire
  check : BitVec 16
  accepted : Option Bool
deriving DecidableEq, Repr

/-- The Line Engine. -/
structure LineEngine where
  phase : LinePhase
  part : LinePart
  dominantRun : Nat
  suspended : Bool
  rx : Option RxRecord
  /-- The frame this station is driving, as completed at the attempt's start bit (R105). -/
  tx : Option Wire
  /-- The bit times of that attempt read so far, the start bit among them (R107 to R109, log entry 14); 0 while no
  frame is driven. -/
  read : Nat
deriving DecidableEq, Repr

/-! ### The values of the Peer and Census Unit (chapter 8) -/

/-- The station mode (R139). -/
inductive Mode where
  | claiming | active | listenOnly
deriving DecidableEq, Repr

/-- The presence of a peer (R146). -/
inductive Presence where
  | unknown | present | absent
deriving DecidableEq, Repr

/-- An entry of the peer table (R146). -/
structure Peer where
  presence : Presence
  roles : Option RoleSet
  identity : Option Identity
  control : Option Control
  onAir : Option ItemId
  standby : Option ItemId
  lastSequence : Option Byte
  misses : Nat
  lastHeard : Option Count
deriving DecidableEq, Repr

/-- The outcome of a non-acknowledged frame (R115). -/
inductive SentOutcome where
  | sent | dropped
deriving DecidableEq, Repr

/-- A sweep result (R151). -/
structure SweepResult where
  item : ItemId
  outcome : SentOutcome
  expected : StationSet
  ready : StationSet
  notReady : StationSet
  count : Count
deriving DecidableEq, Repr

/-- The poll state (R152). -/
inductive PollState where
  | idle
  | queued (target : Nat)
  | awaiting (target : Nat) (timeout : Count)
deriving DecidableEq, Repr

/-- The cause of a poll's ending (R152, R191). -/
inductive PollCause where
  | none | dropped | notAccepted | timeout
deriving DecidableEq, Repr

/-- A poll result (R152): ANSWERED exactly when the STATUS body is present. -/
structure PollResult where
  target : Nat
  cause : PollCause
  count : Count
  body : Option StatusBody
deriving DecidableEq, Repr

/-- A record of the attention list (R153). -/
structure AttentionRecord where
  sender : Nat
  reason : Reason
  item : ItemId
  count : Nat
  first : Count
deriving DecidableEq, Repr

/-- The Peer and Census Unit.  `peers` holds the thirty positions of R146, number 1 first. -/
structure PeerCensus where
  ownNumber : Nat
  identity : Identity
  mode : Mode
  candidate : Option Nat
  tries : Nat
  previous : Nat
  /-- A CLAIM waits to be submitted again (R140, R166). -/
  claimWaiting : Bool
  peers : List (Option Peer)
  sweep : Option SweepResult
  poll : PollState
  pollResult : Option PollResult
  attention : List AttentionRecord
deriving DecidableEq, Repr

/-! ### The Outbound Queues (chapter 9) -/

/-- The backpressure state (R165). -/
inductive Backpressure where
  | admitting | busy
deriving DecidableEq, Repr

/-- The Outbound Queues.  The selection ring is the configured pattern (R160). -/
structure OutboundQueues where
  air : List QueueEntry
  routine : List QueueEntry
  ringPointer : Nat
  sequence : Byte
  backpressure : Backpressure
deriving DecidableEq, Repr

/-! ### The Equipment Port (chapter 10) -/

/-- The port state (R168). -/
inductive PortState where
  | idle | receiving | working | responding | starting
deriving DecidableEq, Repr

/-- The eighteen source flags, in the order of R174. -/
inductive SourceFlag where
  | lateTake | guardRefused | takeIgnored | lineStuck | numberConflict | claimFailed | sendIncomplete | events
  | eventOverflow | peerAbsent | attentionIn | attentionListFull | fireOverflow | prerollShort | pulseMerged
  | refLost | overAlarm | noTime
deriving DecidableEq, Repr

/-- The five groups (R174). -/
inductive Group where
  | take | line | peer | fire | time
deriving DecidableEq, Repr

/-- The cause of a TAKE_SUPERSEDED event (R36, R37). -/
inductive SupersedeCause where
  | superseded | clear | deleted | dropped
deriving DecidableEq, Repr

/-- The reason of a TAKE_IGNORED event (R191). -/
inductive IgnoreReason where
  | notActive | localControl | sweeping | noNext | queueFull | itemGone | cleared
deriving DecidableEq, Repr

/-- The outcome of a STANDBY_SET event (R41). -/
inductive StandbyOutcome where
  | set | unchanged | onAir | notHeld
deriving DecidableEq, Repr

/-- The outcome of an EDIT_HEARD event (R19). -/
inductive EditOutcome where
  | applied | noChange | noSuchItem | refusedOnAir
deriving DecidableEq, Repr

/-- The outcome of a SEND_RESULT event (R116, R164). -/
inductive SendOutcome where
  | complete | incomplete | purged
deriving DecidableEq, Repr

/-- The outcome of an ATTENTION_IN event (R153). -/
inductive AttentionOutcome where
  | counted | new | notRecorded
deriving DecidableEq, Repr

/-- The cause of a PEER_CHANGE event (R149). -/
inductive PeerCause where
  | heard | answered | claimed | missed
deriving DecidableEq, Repr

/-- The cause of a CONTROL_CHANGE event (R46, R47). -/
inductive ControlCause where
  | input | request | lockout | release | refusedLocked
deriving DecidableEq, Repr

/-- The line outcome of a GO event (R91). -/
inductive LineOutcome where
  | none | pulsed | merged | held | restarted
deriving DecidableEq, Repr

/-- The events, with the fields that R191 lists for each. -/
inductive Event where
  | prime (item : ItemId) (element preRoll : Nat) (goFrame : Option Count)
  | go (item : ItemId) (element late : Nat) (outcome : LineOutcome)
  | release (item : ItemId) (element : Nat)
  | takeDone (item : ItemId) (own : Bool) (air : Count) (lateMark : Bool) (lateFrames : Nat) (outgoing : ItemId)
  | takeSuperseded (oldItem : ItemId) (oldAir : Count) (newItem : ItemId) (newAir : Count) (sender : Nat)
      (cause : SupersedeCause)
  | takeIgnored (reason : IgnoreReason) (item : ItemId)
  | guardRefused (item : ItemId) (mismatch : Bool) (notReady : StationSet)
  | standbySet (item : ItemId) (sender : Nat) (outcome : StandbyOutcome)
  | editHeard (kind : Kind) (sender : Nat) (item : ItemId) (delta : Int) (outcome : EditOutcome)
  | sendResult (kind : Kind) (sequence : Byte) (address : Address) (attempts : Nat) (delivered missing : StationSet)
      (outcome : SendOutcome)
  | sweepResult (item : ItemId) (outcome : SentOutcome) (expected ready notReady : StationSet)
  | pollResult (target : Nat) (cause : PollCause) (body : Option StatusBody)
  | attentionIn (sender : Nat) (reason : Reason) (item : ItemId) (outcome : AttentionOutcome) (count : Nat)
  | peerChange (number : Nat) (old new : Presence) (cause : PeerCause) (roles : Option RoleSet)
      (identity : Option Identity)
  | cueStage (item : ItemId) (old new : Stage) (countdown : Option Int) (overridden : Bool)
  | controlChange (old new : Control) (cause : ControlCause) (sender : Nat)
  | refLost (last first : Count)
  | refBack (count : Count) (internal : BitVec 32)
  | numberConflict (number : Nat) (kind : Kind)
  | pulseMerged (line : Nat) (item : ItemId) (element : Nat) (mergedItem : ItemId) (mergedElement : Nat)
deriving DecidableEq, Repr

/-- An event record: the frame count at posting and the event (R172). -/
structure EventRecord where
  count : Count
  event : Event
deriving DecidableEq, Repr

/-- The Equipment Port.  The request in progress is the SET TIME that waits for its pulse, or none: every other
request completes in the step that takes it (R169, log entry 12).  `response` is the response frame offered and
`portOut` what the last read transfer returned, byte by byte (R190). -/
structure EquipmentPort where
  port : PortState
  inProgress : Option Byte
  response : Option (List Byte)
  portOut : List Byte
  overruns : Nat
  fifo : List EventRecord
  overflows : Nat
  /-- Bit i is the i-th source flag of R174. -/
  flags : BitVec 18
  /-- Bits 0 to 4: TAKE, LINE, PEER, FIRE, TIME. -/
  groups : BitVec 5
  /-- The group enables in use (R176). -/
  enables : BitVec 5
  /-- The output ATN (R175). -/
  atn : Bool
deriving DecidableEq, Repr

/-! ### The Start-up Loader (chapter 11) -/

/-- The cause of a restart (R180). -/
inductive Cause where
  | power | pin | requestCold | requestWarm
deriving DecidableEq, Repr

/-- The kind of a start (R180). -/
inductive StartKind where
  | cold | warm
deriving DecidableEq, Repr

/-- The restart phase (chapter 11). -/
inductive Phase where
  | running
  | restarting (kind : StartKind)
deriving DecidableEq, Repr

/-- The image outcome (R182). -/
inductive ImageOutcome where
  | ok | clamped | erased | noMemory | bad
deriving DecidableEq, Repr

/-- The restart record (R187).  Bit i of the clamped-field set stands for byte i of the image (R192). -/
structure RestartRecord where
  cause : Cause
  kind : StartKind
  outcome : ImageOutcome
  startMode : Mode
  clamped : BitVec 24
  values : Config.Values
deriving DecidableEq, Repr

/-- The Start-up Loader, with the level of the RESET input. -/
structure StartupLoader where
  phase : Phase
  cause : Cause
  values : Config.Values
  record : RestartRecord
  resetInput : Bool
deriving DecidableEq, Repr

/-! ### The whole part -/

/-- A recognised operator-input transition on its way to the Take Engine (R57). -/
inductive HandOff where
  | take | force | localOn | localOff
deriving DecidableEq, Repr

/-- The parts of one frame pulse that follow the Frame Clock's own steps (R50, R53, R57, R60, R89, R140, R152). -/
inductive PulsePart where
  /-- The completion of a SET TIME whose setting this pulse has applied (R53). -/
  | timeApplied
  | handOff (h : HandOff)
  | pulseEnds
  | holdEnds
  | take
  /-- At most this many entries of the queue pass (R98). -/
  | entries (n : Nat)
  | pass
  | pollTimeout
  | claimResubmit
  | recompute
deriving DecidableEq, Repr

/-- The state of a KC-62: one field for each of its ten blocks, and two of the model's own. -/
structure State where
  rls : RunList
  tke : TakeEngine
  fck : FrameClock
  tmc : TimingComputer
  fsc : FireScheduler
  lne : LineEngine
  pcu : PeerCensus
  obq : OutboundQueues
  eqp : EquipmentPort
  sul : StartupLoader
  /-- MODEL'S OWN (log entry 3): the parts of the current frame pulse that have not been taken yet. -/
  pulseRest : List PulsePart
  /-- MODEL'S OWN: the commands that are waiting, first in, first out (log entry 1). -/
  pending : List Instr
deriving DecidableEq, Repr

/-- A step of this model never faults: the manual names no condition that stops the part.  A closed type with no
constructor (log entry 4). -/
inductive Fault where
deriving DecidableEq, Repr

/-- Why a command is refused. -/
inductive Refusal where
  /-- Raised by an arm of `exec` that has no meaning yet; none is left.  Safe: a refusal proves nothing. -/
  | notModelled (mnemonic : String)
deriving DecidableEq, Repr

/-! ### The blocks after a restart -/

/-- A take engine after a cold restart (R49). -/
def TakeEngine.fresh : TakeEngine where
  onAir := .none
  standby := none
  pendingTake := none
  lastAired := none
  control := .remote
  guarded := none

/-- The filter of an operator input after a restart, enabled or not (R59). -/
def InputFilter.fresh (enabled : Bool) : InputFilter where
  previous := none
  level := if enabled then .unsettled else .inactive

/-- A frame clock after a restart (R59), for the operator-input enables in use. -/
def FrameClock.fresh (enables : BitVec 3) : FrameClock where
  count := 0
  offset := none
  pendingTime := none
  status := .external
  lossTimer := 0
  internalPulses := 0
  takeInput := InputFilter.fresh (enables.getLsbD 0)
  forceInput := InputFilter.fresh (enables.getLsbD 1)
  localInput := InputFilter.fresh (enables.getLsbD 2)

/-- A timing computer after a restart (R78). -/
def TimingComputer.fresh : TimingComputer where
  result := none
  cueOverride := none
  stage := .clear
  lw := false
  lf := false
  lo := false
  overAlarm := false

/-- A fire scheduler after a restart (R101). -/
def FireScheduler.fresh : FireScheduler where
  queue := []
  lines := List.replicate 8 .inactive
  latch := false

/-- A line engine after a restart (R117). -/
def LineEngine.fresh : LineEngine where
  phase := .gap 0
  part := .none
  dominantRun := 0
  suspended := false
  rx := none
  tx := none
  read := 0

/-- A peer and census unit after a restart (R155), with the identity of the part and the previous number that the
restart leaves.  Candidate and start mode are set at the restart's end (R186, log entry 7). -/
def PeerCensus.fresh (identity : Identity) (previous : Nat) : PeerCensus where
  ownNumber := 0
  identity := identity
  mode := .claiming
  candidate := none
  tries := 0
  previous := previous
  claimWaiting := false
  peers := List.replicate 30 none
  sweep := none
  poll := .idle
  pollResult := none
  attention := []

/-- The outbound queues after a restart (R167). -/
def OutboundQueues.fresh : OutboundQueues where
  air := []
  routine := []
  ringPointer := 0
  sequence := 0
  backpressure := .admitting

/-- The equipment port at the start of a restart (R179), with the group enables in use. -/
def EquipmentPort.fresh (enables : BitVec 5) : EquipmentPort where
  port := .starting
  inProgress := none
  response := none
  portOut := []
  overruns := 0
  fifo := []
  overflows := 0
  flags := 0
  groups := 0
  enables := enables
  atn := false

/-- The restart record before the first restart has ended (DESIGN CHOICE, log entry 7: R187 gives no value). -/
def RestartRecord.first : RestartRecord where
  cause := .power
  kind := .cold
  outcome := .noMemory
  startMode := .claiming
  clamped := 0
  values := Config.defaults

/-- The part just after power was applied: the cold restart of cause POWER has begun and every block is in its
cold restart state (R180, R181); the image has not been read yet, so the values in use are the defaults
(DESIGN CHOICE, log entry 7).  The command RESTART_END ends the restart. -/
def State.reset : State where
  rls := { items := [] }
  tke := TakeEngine.fresh
  fck := FrameClock.fresh Config.defaults.inputEnables
  tmc := TimingComputer.fresh
  fsc := FireScheduler.fresh
  lne := LineEngine.fresh
  pcu := PeerCensus.fresh Config.resetIdentity 0
  obq := OutboundQueues.fresh
  eqp := EquipmentPort.fresh Config.defaults.groupEnables
  sul := { phase := .restarting .cold, cause := .power, values := Config.defaults, record := RestartRecord.first,
           resetInput := false }
  pulseRest := []
  pending := []

/-! ### The named updates of a state, one for each field (their lemmas stand in Laws/State.lean) -/

def State.setRls (r : RunList) (s : State) : State := { s with rls := r }
def State.setTke (t : TakeEngine) (s : State) : State := { s with tke := t }
def State.setFck (f : FrameClock) (s : State) : State := { s with fck := f }
def State.setTmc (t : TimingComputer) (s : State) : State := { s with tmc := t }
def State.setFsc (f : FireScheduler) (s : State) : State := { s with fsc := f }
def State.setLne (l : LineEngine) (s : State) : State := { s with lne := l }
def State.setPcu (p : PeerCensus) (s : State) : State := { s with pcu := p }
def State.setObq (q : OutboundQueues) (s : State) : State := { s with obq := q }
def State.setEqp (e : EquipmentPort) (s : State) : State := { s with eqp := e }
def State.setSul (u : StartupLoader) (s : State) : State := { s with sul := u }
def State.setPulseRest (r : List PulsePart) (s : State) : State := { s with pulseRest := r }
def State.setPending (q : List Instr) (s : State) : State := { s with pending := q }

end Sys2Proof.Machine
end

