-- ==== Sys2Proof/Machine/Operands.lean ====
section
/-! DEFINITION. Every layout of chapter 12: bytes and fields, the codes of the lists, the frame kinds, the check,
the gallery-line frames as sent and as read, and the event records. -/

namespace Sys2Proof.Machine

/-! ### Bytes and fields (R188) -/

/-- The low `n` bytes of a number, most significant byte first (R188). -/
def be : Nat → Nat → List Byte
  | 0, _ => []
  | n + 1, v => BitVec.ofNat 8 (v / 256 ^ n) :: be n v

/-- A signed number in `n` bytes of two's complement (R188). -/
def beInt (n : Nat) (v : Int) : List Byte := be n (v % 256 ^ n).toNat

/-- An optional value: a presence byte, then its `n` bytes, sent as 0 when it is absent (R190). -/
def beOption (n : Nat) : Option Nat → List Byte
  | none => 0 :: be n 0
  | some v => 1 :: be n v

/-- U and C in three bytes, 0x800000 for absent (R77, R190). -/
def beOver : Option Int → List Byte
  | none => be 3 0x800000
  | some v => beInt 3 v

/-- A value that is set or clear, in one byte (R190). -/
def beBool (b : Bool) : List Byte := [if b then 1 else 0]

/-- A count in four bytes (R188). -/
def beCount (c : Count) : List Byte := be 4 c.toNat

/-- An optional count (R190). -/
def beCountOption (c : Option Count) : List Byte := beOption 4 (c.map BitVec.toNat)

/-- An item ID in two bytes (R188). -/
def beItem (i : ItemId) : List Byte := be 2 i.toNat

/-- An optional item ID, where 0 means none (R190). -/
def beItemOption (i : Option ItemId) : List Byte := beItem (i.getD 0)

/-- An optional value of one byte (R190). -/
def beByteOption (v : Option Byte) : List Byte := beOption 1 (v.map BitVec.toNat)

/-- `l` cut or padded with 0 to `n` bytes (R191). -/
def padTo (n : Nat) (l : List Byte) : List Byte := (l ++ List.replicate n 0).take n

/-- Byte `i` of a list of bytes, 0 past its end. -/
def byteAt (l : List Byte) (i : Nat) : Byte := l.getD i 0

/-- The 2-byte field at byte `i` (R188). -/
def field16 (l : List Byte) (i : Nat) : BitVec 16 := byteAt l i ++ byteAt l (i + 1)

/-- The 3-byte field at byte `i` (R188). -/
def field24 (l : List Byte) (i : Nat) : BitVec 24 := field16 l i ++ byteAt l (i + 2)

/-- The 6-byte field at byte `i` (R188, R189). -/
def field48 (l : List Byte) (i : Nat) : BitVec 48 := field24 l i ++ field24 l (i + 3)

/-- "An item ID is 1 … 65,534" (00_scope, R10, R118). -/
def validItem (i : ItemId) : Bool := i != 0 && i != 0xFFFF

/-- The reported-item check of R118: 0 passes and 65,535 fails. -/
def reportableItem (i : ItemId) : Bool := i != 0xFFFF

/-! ### Station sets (R188) -/

/-- Station `k` is in the set. -/
def inSet (t : StationSet) (k : Nat) : Bool := t.getLsbD k

/-- The set that holds station `k` alone; empty for a number that no station bears. -/
def single (k : Nat) : StationSet := if 1 ≤ k ∧ k ≤ 30 then (1 : StationSet) <<< k else 0

/-- The set less station `k`. -/
def without (t : StationSet) (k : Nat) : StationSet := t &&& ~~~ single k

/-- The bits of a set that stand for stations: 1 to 30 (R188). -/
def stationsOnly (t : StationSet) : StationSet := t &&& 0x7FFFFFFE

/-- The station numbers 1 … 30 in order. -/
def stationNumbers : List Nat := (List.range 30).map (· + 1)

/-- The members of a set in rising order. -/
def members (t : StationSet) : List Nat := stationNumbers.filter (inSet t)

/-! ### Codes of the lists (R188) -/

def ItemState.code : ItemState → Byte
  | .waiting => 0 | .standby => 1 | .onAir => 2 | .aired => 3 | .floated => 4

def ElementState.code : ElementState → Byte
  | .idle => 0 | .primed => 1 | .scheduled => 2 | .held => 3 | .fired => 4 | .skipped => 5 | .suppressed => 6

def CueBasis.code : CueBasis → Byte
  | .item => 0 | .segment => 1

def Anchor.code : Anchor → Byte
  | .start => 0 | .ending => 1

def TakeOff.code : TakeOff → Byte
  | .cancel => 0 | .force => 1

/-- The target byte of R190. -/
def Target.code : Target → Byte
  | .line n => BitVec.ofNat 8 n | .event => 8 | .both n => BitVec.ofNat 8 (16 + n)

/-- The target that a byte names: 0–7 LINE, 8 EVENT, 16–23 BOTH, every other value none (R190). -/
def Target.ofByte (b : Byte) : Option Target :=
  if b.toNat ≤ 7 then some (.line b.toNat)
  else if b.toNat = 8 then some .event
  else if 16 ≤ b.toNat ∧ b.toNat ≤ 23 then some (.both (b.toNat - 16))
  else none

def OnAirKind.code : OnAirKind → Byte
  | .none => 0 | .own => 1 | .foreign => 2

def SegmentStatus.code : SegmentStatus → Byte
  | .closed => 0 | .opened => 1 | .noTime => 2

def RefStatus.code : RefStatus → Byte
  | .external => 0 | .freeRun => 1

def Level.code : Level → Byte
  | .inactive => 0 | .active => 1 | .unsettled => 2

def FireLine.code : FireLine → Byte
  | .inactive => 0 | .pulsing _ _ _ => 1 | .held _ _ _ => 2

def Action.code : Action → Byte
  | .prime => 0 | .go => 1

def Origin.code : Origin → Byte
  | .takeInput => 0 | .takeNext => 1 | .send => 2

def Mode.code : Mode → Byte
  | .claiming => 0 | .active => 1 | .listenOnly => 2

def Presence.code : Presence → Byte
  | .unknown => 0 | .present => 1 | .absent => 2

def Backpressure.code : Backpressure → Byte
  | .admitting => 0 | .busy => 1

def Cause.code : Cause → Byte
  | .power => 0 | .pin => 1 | .requestCold => 2 | .requestWarm => 3

def StartKind.code : StartKind → Byte
  | .cold => 0 | .warm => 1

def ImageOutcome.code : ImageOutcome → Byte
  | .ok => 0 | .clamped => 1 | .erased => 2 | .noMemory => 3 | .bad => 4

def Stage.code : Stage → Byte
  | .clear => 0 | .wrap => 1 | .final => 2 | .out => 3 | .over => 4

/-- The stage that a code names; AUTO, code 5, is no stage of an item (R72, R188). -/
def Stage.ofCode (b : Byte) : Option Stage :=
  if b = 0 then some .clear else if b = 1 then some .wrap else if b = 2 then some .final
  else if b = 3 then some .out else if b = 4 then some .over else none

/-- The code AUTO of a CUE (R188). -/
def autoStage : Byte := 5

def Reason.code : Reason → Byte
  | .notReady => 0 | .prerollShort => 1 | .fireOverflow => 2 | .operatorCall => 3

/-- The reason that a code names (R188). -/
def Reason.ofCode (b : Byte) : Option Reason :=
  if b = 0 then some .notReady else if b = 1 then some .prerollShort else if b = 2 then some .fireOverflow
  else if b = 3 then some .operatorCall else none

def Control.code : Control → Byte
  | .remote => 0 | .localControl => 1 | .remoteLocked => 2 | .localLocked => 3

/-- The control state that a code names (R188). -/
def Control.ofCode (b : Byte) : Option Control :=
  if b = 0 then some .remote else if b = 1 then some .localControl else if b = 2 then some .remoteLocked
  else if b = 3 then some .localLocked else none

def PortState.code : PortState → Byte
  | .idle => 0 | .receiving => 1 | .working => 2 | .responding => 3 | .starting => 4

/-- The results of a request (R190). -/
inductive Result where
  | done | duplicate | storeFull | noSuchItem | noSuchElement | onAir | badField | queueBusy | queueFull | busy
  | notActive | locked
deriving DecidableEq, Repr

def Result.code : Result → Byte
  | .done => 0 | .duplicate => 1 | .storeFull => 2 | .noSuchItem => 3 | .noSuchElement => 4 | .onAir => 5
  | .badField => 6 | .queueBusy => 7 | .queueFull => 8 | .busy => 9 | .notActive => 10 | .locked => 11

/-! ### The frame kinds (R118, R189) -/

/-- Every kind, in the order of the codes. -/
def Kind.all : List Kind :=
  [.take, .clear, .standby, .hold, .resume, .stretch, .cue, .sweep, .attention, .drop, .float, .restore, .poll,
   .status, .lockout, .release, .announce, .claim]

/-- The kind code (R189). -/
def Kind.code : Kind → Nat
  | .take => 0 | .clear => 1 | .standby => 2 | .hold => 3 | .resume => 4 | .stretch => 5 | .cue => 6 | .sweep => 7
  | .attention => 8 | .drop => 9 | .float => 10 | .restore => 11 | .poll => 12 | .status => 13 | .lockout => 14
  | .release => 15 | .announce => 16 | .claim => 17

/-- The kind that a code names; codes 18 and above name none (R189). -/
def Kind.ofCode (c : Nat) : Option Kind := Kind.all[c]?

/-- The urgency fixed by the kind (chapter 7, table). -/
def Kind.urgency : Kind → Nat
  | .take | .clear => 0
  | .standby | .hold | .resume | .stretch | .cue => 1
  | .sweep | .attention => 2
  | .drop | .float | .restore => 3
  | .poll | .status => 4
  | .lockout | .release => 5
  | .announce => 6
  | .claim => 7

/-- The body length in bytes fixed by the kind (chapter 7, table). -/
def Kind.bodyLength : Kind → Nat
  | .take => 8
  | .clear | .lockout | .release => 1
  | .standby | .hold | .resume | .drop | .float | .restore => 3
  | .stretch => 5
  | .cue | .attention => 4
  | .sweep => 2
  | .poll => 0
  | .status | .announce => 12
  | .claim => 7

/-- Whether the kind is acknowledged (chapter 7, table). -/
def Kind.acknowledged : Kind → Bool
  | .sweep | .poll | .status | .announce | .claim => false
  | _ => true

/-- Urgencies 0 to 2 go to the air queue (R156). -/
def Kind.inAir (k : Kind) : Bool := decide (k.urgency ≤ 2)

/-- The kind of a submitted frame. -/
def Payload.kind : Payload → Kind
  | .take _ _ _ => .take
  | .clear => .clear
  | .standby _ => .standby
  | .hold _ => .hold
  | .resume _ => .resume
  | .stretch _ _ => .stretch
  | .cue _ _ => .cue
  | .sweep _ => .sweep
  | .attention _ _ => .attention
  | .drop _ => .drop
  | .float _ => .float
  | .restore _ => .restore
  | .poll => .poll
  | .status _ => .status
  | .lockout => .lockout
  | .release => .release
  | .announce _ _ _ _ _ => .announce
  | .claim _ _ _ => .claim

/-! ### The check (R105) -/

/-- One bit through the check register: polynomial x^16 + x^12 + x^5 + 1, most significant bit first (R105). -/
def crcBit (r : BitVec 16) (b : Bool) : BitVec 16 :=
  (r <<< 1) ^^^ (if r.msb != b then 0x1021 else 0)

/-- The check of a row of bits, from a register of all ones (R105). -/
def crc (bits : List Bool) : BitVec 16 := bits.foldl crcBit 0xFFFF

/-- The bits of a field, most significant bit first (R102, R188). -/
def fieldBits {w : Nat} (x : BitVec w) : List Bool := (List.range w).map x.getMsbD

/-- The bits of a row of bytes, each most significant bit first (R188). -/
def bytesBits (l : List Byte) : List Bool := l.flatMap fieldBits

end Sys2Proof.Machine

namespace Sys2Proof
open Machine

/-- The bits of a frame that the check covers: from the first bit of the urgency to the last bit of the body (R105). -/
def Wire.checkedBits (w : Wire) : List Bool :=
  fieldBits w.urgency ++ fieldBits w.sender ++ fieldBits w.kind ++ [w.byNumber] ++ fieldBits w.address ++
    fieldBits w.length ++ bytesBits w.body

/-- The check that a station computes over a frame (R105). -/
def Wire.computed (w : Wire) : BitVec 16 := crc w.checkedBits

/-- The bits of a frame from its start bit to the last bit of its check, as the sender drives them; false is
dominant (R102, R104). -/
def Wire.bits (w : Wire) : List Bool := false :: w.checkedBits ++ fieldBits w.check

end Sys2Proof

namespace Sys2Proof.Machine

/-! ### Frames as sent (R104, R105, R189) -/

/-- The twelve bytes of a STATUS body (R189). -/
def StatusBody.bytes (b : StatusBody) : List Byte :=
  [b.control] ++ beItem b.onAir ++ beItem b.standby ++ beItem b.pending ++ [b.fireCount] ++ be 3 b.overUnder.toNat ++
    [b.groups]

/-- A STATUS body read from its bytes (R189).  Bits 5 to 7 of the group-flags byte, which carry no value and are not looked
at (R118), stay in the stored body as received (DESIGN CHOICE, unsafe; log entry 40). -/
def StatusBody.ofBytes (l : List Byte) : StatusBody where
  control := byteAt l 0
  onAir := field16 l 1
  standby := field16 l 3
  pending := field16 l 5
  fireCount := byteAt l 7
  overUnder := field24 l 8
  groups := byteAt l 11

/-- The body bytes of a submitted frame, with its sequence number and, for a TAKE, the lead and late flag of the
attempt (R189). -/
def Payload.bytes (sequence lead : Byte) (late : Bool) : Payload → List Byte
  | .take i d _ => [sequence] ++ beItem i ++ [lead] ++ beBool late ++ be 3 d
  | .clear => [sequence]
  | .standby i => [sequence] ++ beItem i
  | .hold i => [sequence] ++ beItem i
  | .resume i => [sequence] ++ beItem i
  | .stretch i d => [sequence] ++ beItem i ++ beInt 2 d
  | .cue i st => [sequence] ++ beItem i ++ [st]
  | .sweep i => beItem i
  | .attention r i => [sequence, r.code] ++ beItem i
  | .drop i => [sequence] ++ beItem i
  | .float i => [sequence] ++ beItem i
  | .restore i => [sequence] ++ beItem i
  | .poll => []
  | .status b => b.bytes
  | .lockout => [sequence]
  | .release => [sequence]
  | .announce id r c a sb => be 6 id.toNat ++ [r, c.code] ++ beItem a ++ beItem sb
  | .claim _ id r => be 6 id.toNat ++ [r]

end Sys2Proof.Machine

namespace Sys2Proof
open Machine

/-- The frame of a kind, with its check computed; the upper three bits of a station-number address are sent as 0
(R104, R105). -/
def Wire.make (k : Kind) (sender : Nat) (a : Address) (body : List Byte) : Wire :=
  let w : Wire :=
    { urgency := BitVec.ofNat 3 k.urgency
      sender := BitVec.ofNat 5 sender
      kind := BitVec.ofNat 5 k.code
      byNumber := a.byNumber
      address := if a.byNumber then a.value &&& 0x1F else a.value
      length := BitVec.ofNat 4 k.bodyLength
      body := body
      check := 0 }
  { w with check := w.computed }

/-! ### Frames as read (R106, R189) -/

/-- The kind that a frame as read carries, when its code names one (R189). -/
def Wire.frameKind (w : Wire) : Option Kind := Kind.ofCode w.kind.toNat

/-- "Heard" (R106): the check passes, the kind is one of the eighteen, urgency and body length are the kind's, and the
sender field is 1 … 30. -/
def Wire.heard (w : Wire) : Bool :=
  match w.frameKind with
  | none => false
  | some k =>
    w.check == w.computed && w.urgency.toNat == k.urgency && w.length.toNat == k.bodyLength &&
      w.body.length == k.bodyLength && decide (1 ≤ w.sender.toNat) && decide (w.sender.toNat ≤ 30)

/-- A heard frame of kind `k`. -/
def Wire.heardAs (w : Wire) (k : Kind) : Bool := w.heard && w.frameKind == some k

/-- The station number of a station-number address: its low five bits (R104). -/
def Wire.number (w : Wire) : Nat := (w.address &&& 0x1F).toNat

/-- The sequence number of an acknowledged frame: byte 0 of its body (R189). -/
def Wire.sequence (w : Wire) : Byte := byteAt w.body 0

/-- The item ID of a frame that carries it in bytes 1–2 of its body (R189). -/
def Wire.item (w : Wire) : ItemId := field16 w.body 1

end Sys2Proof

namespace Sys2Proof.Machine

/-! ### Event records (R191) -/

/-- The event code (R191). -/
def Event.code : Event → Byte
  | .prime _ _ _ _ => 1
  | .go _ _ _ _ => 2
  | .release _ _ => 3
  | .takeDone _ _ _ _ _ _ => 4
  | .takeSuperseded _ _ _ _ _ _ => 5
  | .takeIgnored _ _ => 6
  | .guardRefused _ _ _ => 7
  | .standbySet _ _ _ => 8
  | .editHeard _ _ _ _ _ => 9
  | .sendResult _ _ _ _ _ _ _ => 10
  | .sweepResult _ _ _ _ _ => 11
  | .pollResult _ _ _ => 12
  | .attentionIn _ _ _ _ _ => 13
  | .peerChange _ _ _ _ _ _ => 14
  | .cueStage _ _ _ _ _ => 15
  | .controlChange _ _ _ _ => 16
  | .refLost _ _ => 17
  | .refBack _ _ => 18
  | .numberConflict _ _ => 19
  | .pulseMerged _ _ _ _ _ => 20

def LineOutcome.code : LineOutcome → Byte
  | .none => 0 | .pulsed => 1 | .merged => 2 | .held => 3 | .restarted => 4

def SupersedeCause.code : SupersedeCause → Byte
  | .superseded => 0 | .clear => 1 | .deleted => 2 | .dropped => 3

def IgnoreReason.code : IgnoreReason → Byte
  | .notActive => 0 | .localControl => 1 | .sweeping => 2 | .noNext => 3 | .queueFull => 4 | .itemGone => 5
  | .cleared => 6

def StandbyOutcome.code : StandbyOutcome → Byte
  | .set => 0 | .unchanged => 1 | .onAir => 2 | .notHeld => 3

def EditOutcome.code : EditOutcome → Byte
  | .applied => 0 | .noChange => 1 | .noSuchItem => 2 | .refusedOnAir => 3

def SendOutcome.code : SendOutcome → Byte
  | .complete => 0 | .incomplete => 1 | .purged => 2

def SentOutcome.code : SentOutcome → Byte
  | .sent => 0 | .dropped => 1

def PollCause.code : PollCause → Byte
  | .none => 0 | .dropped => 1 | .notAccepted => 2 | .timeout => 3

def AttentionOutcome.code : AttentionOutcome → Byte
  | .counted => 0 | .new => 1 | .notRecorded => 2

def PeerCause.code : PeerCause → Byte
  | .heard => 0 | .answered => 1 | .claimed => 2 | .missed => 3

def ControlCause.code : ControlCause → Byte
  | .input => 0 | .request => 1 | .lockout => 2 | .release => 3 | .refusedLocked => 4

/-- The field bytes of an event, in the order of R191 and before the padding. -/
def Event.fields : Event → List Byte
  | .prime i e p g => beItem i ++ be 1 e ++ be 1 p ++ beCountOption g
  | .go i e l o => beItem i ++ be 1 e ++ be 1 l ++ [o.code]
  | .release i e => beItem i ++ be 1 e
  | .takeDone i o a m l out => beItem i ++ beBool o ++ beCount a ++ beBool m ++ be 1 l ++ beItem out
  | .takeSuperseded oi oa ni na sd c => beItem oi ++ beCount oa ++ beItem ni ++ beCount na ++ be 1 sd ++ [c.code]
  | .takeIgnored r i => [r.code] ++ beItem i
  | .guardRefused i m n => beItem i ++ beBool m ++ be 4 n.toNat
  | .standbySet i sd o => beItem i ++ be 1 sd ++ [o.code]
  | .editHeard k sd i d o => be 1 k.code ++ be 1 sd ++ beItem i ++ beInt 2 d ++ [o.code]
  | .sendResult k sq a n d m o =>
    be 1 k.code ++ [sq] ++ beBool a.byNumber ++ [a.value] ++ be 1 n ++ be 4 d.toNat ++ be 4 m.toNat ++ [o.code]
  | .sweepResult i o e r n => beItem i ++ [o.code] ++ be 4 e.toNat ++ be 4 r.toNat ++ be 4 n.toNat
  | .pollResult t c b =>
    be 1 t ++ beBool b.isNone ++ [c.code] ++ (match b with | none => be 12 0 | some x => x.bytes)
  | .attentionIn sd r i o n => be 1 sd ++ [r.code] ++ beItem i ++ [o.code] ++ be 1 n
  | .peerChange k o n c r i =>
    be 1 k ++ [o.code, n.code, c.code] ++ be 1 ((if r.isSome then 1 else 0) + (if i.isSome then 2 else 0)) ++
      [r.getD 0] ++ be 6 (i.getD 0).toNat
  | .cueStage i o n c ov => beItem i ++ [o.code, n.code] ++ beOver c ++ beBool ov
  | .controlChange o n c sd => [o.code, n.code, c.code] ++ be 1 sd
  | .refLost l f => beCount l ++ beCount f
  | .refBack c n => beCount c ++ be 4 n.toNat
  | .numberConflict n k => be 1 n ++ be 1 k.code
  | .pulseMerged l i e mi me => be 1 l ++ beItem i ++ be 1 e ++ beItem mi ++ be 1 me

/-- An event record as FETCH EVENTS returns it: 20 bytes (R191). -/
def EventRecord.bytes (r : EventRecord) : List Byte :=
  [r.event.code] ++ beCount r.count ++ padTo 15 r.event.fields

end Sys2Proof.Machine
end

