-- ==== Sys2Proof/Decode.lean ====
section
/-! DEFINITION. The request that a transfer at the equipment port spells (R169, R190), and the host's question about a
word: no row of spec/opcode_table.json gives bits, so no word spells a command. -/

namespace Sys2Proof
open Machine

/-- The command that a word spells by the table's bits: the table gives no row any (00_scope; 98_reader). -/
def decodeTableWord (_nbits _w : Nat) : Option Instr := none

/-- The field bytes of a SEND's body for a kind that it may carry: its frame body without the sequence byte, and for a
TAKE without the flags byte (R190); absent for STATUS, ANNOUNCE, CLAIM. -/
def sendLength : Kind → Option Nat
  | .take => some 6
  | .clear | .lockout | .release => some 0
  | .standby | .hold | .resume | .drop | .float | .restore => some 2
  | .stretch => some 4
  | .cue | .attention => some 3
  | .sweep => some 2
  | .poll => some 0
  | .status | .announce | .claim => none

/-- Whether `n` field bytes are the number that a SEND with kind byte `b` takes: four and the body's (R190).  A kind
that no SEND may carry fixes no length; its request is refused by its kind (R119). -/
def sendTakes (b : Byte) (n : Nat) : Bool :=
  match (Kind.ofCode b.toNat).bind sendLength with
  | some k => n == 4 + k
  | none => decide (4 ≤ n)

/-- The request of a code with the field bytes `f`, when their number is the one that the code takes (R190). -/
def decodeFields (code : Byte) (f : List Byte) : Option Instr :=
  let b := byteAt f
  let w := field16 f
  let t := field24 f
  let take (n : Nat) (i : Instr) : Option Instr := if f.length = n then some i else none
  match code.toNat with
  | 0x01 => take 11 (.loadItem (w 0) (t 2) (t 5) (b 8) (w 9))
  | 0x02 => take 10 (.amendItem (w 0) (t 2) (b 5) (t 6) (b 9))
  | 0x03 => take 4 (.moveItem (w 0) (w 2))
  | 0x04 => take 2 (.deleteItem (w 0))
  | 0x05 => take 12 (.loadElement (w 0) (b 2) (b 3) (w 4) (b 6) (b 7) (b 8) (w 9) (b 11))
  | 0x06 => take 3 (.deleteElement (w 0) (b 2))
  | 0x07 => take 4 (.setReady (w 0) (b 2) (b 3))
  | 0x08 => take 2 (.floatRequest (w 0))
  | 0x09 => take 2 (.restoreRequest (w 0))
  | 0x0A => if sendTakes (b 0) f.length then some (.send (b 0) (b 1) (b 2) (b 3) (f.drop 4)) else none
  | 0x0B => take 1 (.takeNext (b 0))
  | 0x0C => take 0 .standbyNext
  | 0x0D => take 1 (.setControl (b 0))
  | 0x0E => take 3 (.setTime (t 0))
  | 0x0F => take 2 (.call (w 0))
  | 0x10 => take 3 (.readItem (b 0) (w 1))
  | 0x11 => take 1 (.readTiming (b 0))
  | 0x12 => take 0 .readPeers
  | 0x13 => take 0 .readSweep
  | 0x14 => take 0 .readPoll
  | 0x15 => take 0 .readAttention
  | 0x16 => take 2 (.ackAttention (b 0) (b 1))
  | 0x17 => take 1 (.fetchEvents (b 0))
  | 0x18 => take 0 .fetchSummary
  | 0x19 => take 3 (.ackFlags (t 0))
  | 0x1A => take 1 (.setGroupEnables (b 0))
  | 0x1B => take 0 .readRestart
  | 0x1C => take 1 (.restartRequest (b 0))
  | _ => none

/-- The command that a request transfer spells (R169, R190): the code, one length byte, and as many field bytes as it
gives, which is the number that the code takes.  A transfer whose first byte is 0x00 is a read, and no request. -/
def decodeRequest : List Byte → Option Instr
  | code :: len :: f => if f.length = len.toNat then decodeFields code f else none
  | _ => none

/-- A request transfer that is refused whole (R169): its first byte is not 0x00 and it spells no request. -/
def isBadRequest (bytes : List Byte) : Bool :=
  match bytes with
  | [] => false
  | code :: _ => code != 0 && (decodeRequest bytes).isNone

/-! ### The other direction: the transfer of a request -/

/-- A request transfer: code, length byte, field bytes (R190). -/
def requestFrame (code : Byte) (f : List Byte) : List Byte := code :: BitVec.ofNat 8 f.length :: f

/-- The 2 bytes of a field (R188). -/
def bytes16 (x : BitVec 16) : List Byte := [x.extractLsb' 8 8, x.extractLsb' 0 8]

/-- The 3 bytes of a field (R188). -/
def bytes24 (x : BitVec 24) : List Byte := [x.extractLsb' 16 8, x.extractLsb' 8 8, x.extractLsb' 0 8]

/-- The transfer that spells a request; absent for a command that is no request (R190). -/
def encodeRequest : Instr → Option (List Byte)
  | .loadItem i d h b a => some (requestFrame 0x01 (bytes16 i ++ bytes24 d ++ bytes24 h ++ [b] ++ bytes16 a))
  | .amendItem i d a h b => some (requestFrame 0x02 (bytes16 i ++ bytes24 d ++ [a] ++ bytes24 h ++ [b]))
  | .moveItem i a => some (requestFrame 0x03 (bytes16 i ++ bytes16 a))
  | .deleteItem i => some (requestFrame 0x04 (bytes16 i))
  | .loadElement i e a o p n t d k =>
    some (requestFrame 0x05 (bytes16 i ++ [e, a] ++ bytes16 o ++ [p, n, t] ++ bytes16 d ++ [k]))
  | .deleteElement i e => some (requestFrame 0x06 (bytes16 i ++ [e]))
  | .setReady i e v => some (requestFrame 0x07 (bytes16 i ++ [e, v]))
  | .floatRequest i => some (requestFrame 0x08 (bytes16 i))
  | .restoreRequest i => some (requestFrame 0x09 (bytes16 i))
  | .send k m a f body => some (requestFrame 0x0A ([k, m, a, f] ++ body))
  | .takeNext f => some (requestFrame 0x0B [f])
  | .standbyNext => some (requestFrame 0x0C [])
  | .setControl v => some (requestFrame 0x0D [v])
  | .setTime t => some (requestFrame 0x0E (bytes24 t))
  | .call i => some (requestFrame 0x0F (bytes16 i))
  | .readItem c v => some (requestFrame 0x10 ([c] ++ bytes16 v))
  | .readTiming k => some (requestFrame 0x11 [k])
  | .readPeers => some (requestFrame 0x12 [])
  | .readSweep => some (requestFrame 0x13 [])
  | .readPoll => some (requestFrame 0x14 [])
  | .readAttention => some (requestFrame 0x15 [])
  | .ackAttention k r => some (requestFrame 0x16 [k, r])
  | .fetchEvents n => some (requestFrame 0x17 [n])
  | .fetchSummary => some (requestFrame 0x18 [])
  | .ackFlags f => some (requestFrame 0x19 (bytes24 f))
  | .setGroupEnables e => some (requestFrame 0x1A [e])
  | .readRestart => some (requestFrame 0x1B [])
  | .restartRequest k => some (requestFrame 0x1C [k])
  | .powerOn _ | .resetActive | .restartEnd _ | .framePulse _ | .refLost _ | .internalPulse _ | .refBack _ _
  | .setTimeApplied | .takeExecution | .primeExecution | .goExecution | .pulseEnd _ | .levelHoldEnd _ | .pollTimeout
  | .claimResubmit | .lineIdle _ | .lineStuck _ | .sendOpportunity | .contentionLost _ | .collision | .attemptSent _
  | .frameNotHeard _ | .takeFrame _ | .clearFrame _ | .standbyFrame _ | .holdFrame _ | .resumeFrame _ | .stretchFrame _
  | .cueFrame _ | .sweepFrame _ | .attentionFrame _ | .dropFrame _ | .floatFrame _ | .restoreFrame _ | .pollFrame _
  | .statusFrame _ | .lockoutFrame _ | .releaseFrame _ | .announceFrame _ | .claimFrame _ | .portRead _
  | .badRequestFrame _ | .endFieldDominantBit => none

end Sys2Proof
end

