-- ==== Sys2Proof/Machine/Flags.lean ====
section
/-! DEFINITION. The reporting of the Equipment Port: source flags, group flags and ATN (R174, R175), and the event
FIFO (R172). -/

namespace Sys2Proof.Machine

/-- The place of a source flag in the table of R174, and so its bit (R190). -/
def SourceFlag.bit : SourceFlag → Nat
  | .lateTake => 0 | .guardRefused => 1 | .takeIgnored => 2 | .lineStuck => 3 | .numberConflict => 4
  | .claimFailed => 5 | .sendIncomplete => 6 | .events => 7 | .eventOverflow => 8 | .peerAbsent => 9
  | .attentionIn => 10 | .attentionListFull => 11 | .fireOverflow => 12 | .prerollShort => 13 | .pulseMerged => 14
  | .refLost => 15 | .overAlarm => 16 | .noTime => 17

/-- The group of a source flag (R174). -/
def SourceFlag.group : SourceFlag → Group
  | .lateTake | .guardRefused | .takeIgnored => .take
  | .lineStuck | .numberConflict | .claimFailed | .sendIncomplete | .events | .eventOverflow => .line
  | .peerAbsent | .attentionIn | .attentionListFull => .peer
  | .fireOverflow | .prerollShort | .pulseMerged => .fire
  | .refLost | .overAlarm | .noTime => .time

/-- The bit of a group in a group-flag or enable field (R190). -/
def Group.bit : Group → Nat
  | .take => 0 | .line => 1 | .peer => 2 | .fire => 3 | .time => 4

/-- ATN: asserted while at least one enabled group holds a set group flag (R175). -/
def atnOf (groups enables : BitVec 5) : Bool := (groups &&& enables) != 0

/-- ATN brought up to the group flags and the group enables (R175). -/
def EquipmentPort.driveAtn (e : EquipmentPort) : EquipmentPort := { e with atn := atnOf e.groups e.enables }

/-- The source flag is set. -/
def EquipmentPort.flag (e : EquipmentPort) (f : SourceFlag) : Bool := e.flags.getLsbD f.bit

/-- Raising a source flag (R174): a clear flag becomes set and sets its group flag (R175); a set flag stays set with
no further effect. -/
def EquipmentPort.raise (f : SourceFlag) (e : EquipmentPort) : EquipmentPort :=
  if e.flag f then e
  else { e with
    flags := e.flags ||| ((1 : BitVec 18) <<< f.bit)
    groups := e.groups ||| ((1 : BitVec 5) <<< f.group.bit) }.driveAtn

/-- Clearing a source flag, which leaves its group flag (R174, R175). -/
def EquipmentPort.lower (f : SourceFlag) (e : EquipmentPort) : EquipmentPort :=
  { e with flags := e.flags &&& ~~~ ((1 : BitVec 18) <<< f.bit) }

/-- Posting an event at frame count `now` (R172): it joins the tail, raising EVENTS into an empty FIFO; a full FIFO
discards it, counts the overflow and raises EVENT_OVERFLOW. -/
def EquipmentPort.post (now : Count) (ev : Event) (e : EquipmentPort) : EquipmentPort :=
  if Config.fifoCapacity ≤ e.fifo.length then
    { e with overflows := min Config.byteMax (e.overflows + 1) }.raise .eventOverflow
  else
    let e' := { e with fifo := e.fifo ++ [⟨now, ev⟩] }
    if e.fifo.isEmpty then e'.raise .events else e'

/-- A response frame: request code, result code, 2-byte length, fields (R190). -/
def responseFrame (code : Byte) (r : Result) (fields : List Byte) : List Byte :=
  [code, r.code] ++ be 2 fields.length ++ fields

/-- Offering a response: the request has completed (R168, R169). -/
def EquipmentPort.offer (code : Byte) (r : Result) (fields : List Byte) (e : EquipmentPort) : EquipmentPort :=
  { e with port := .responding, inProgress := none, response := some (responseFrame code r fields) }

/-- Any block posts an event (R172). -/
def State.post (ev : Event) (s : State) : State := s.setEqp (s.eqp.post s.fck.count ev)

/-- Any block raises a source flag (R174). -/
def State.raise (f : SourceFlag) (s : State) : State := s.setEqp (s.eqp.raise f)

/-- A block clears a source flag of its own (R174). -/
def State.lower (f : SourceFlag) (s : State) : State := s.setEqp (s.eqp.lower f)

/-- A TAKE_IGNORED event, which raises the take-ignored source flag (R30). -/
def State.ignoreTake (r : IgnoreReason) (i : ItemId) (s : State) : State :=
  (s.post (.takeIgnored r i)).raise .takeIgnored

end Sys2Proof.Machine
end

