-- ==== Sys2Proof/Machine/Ops.lean ====
section
/-! DEFINITION. The shared operations over the clock, the run list and the fire lines' modes: what every family of
commands reads and writes. -/

namespace Sys2Proof.Machine

/-! ### Time (R50, R52) -/

/-- The frame rate F in frames per second, from its code (R183, R192). -/
def framesPerSecond (code : Nat) : Nat :=
  if code = 0 then 24 else if code = 1 then 25 else if code = 2 then 30 else if code = 3 then 50 else 60

/-- D, the frames in a day (00_scope, R52). -/
def dayFrames (code : Nat) : Nat := 86400 * framesPerSecond code

/-- "now": the frame count at the most recent frame pulse (00_scope). -/
def State.now (s : State) : Count := s.fck.count

/-- "The next frame": now + 1 (00_scope). -/
def State.nextFrame (s : State) : Count := s.now + 1

/-- The configuration values in use (R185). -/
def State.values (s : State) : Config.Values := s.sul.values

/-- F in use. -/
def State.rate (s : State) : Nat := framesPerSecond s.values.frameRate

/-- D in use. -/
def State.day (s : State) : Nat := dayFrames s.values.frameRate

/-- The ToD of a count while the offset is present (R52). -/
def todAt (day : Nat) (offset : Nat) (c : Count) : Nat := (c.toNat + offset) % day

/-- ToD(now), or absent when the station has no time (R52). -/
def State.tod (s : State) : Option Nat := s.fck.offset.map fun o => todAt s.day o s.now

/-- The phase is RUNNING (chapter 11). -/
def State.running (s : State) : Bool := s.sul.phase == .running

/-- The station mode is ACTIVE (R139). -/
def State.isActive (s : State) : Bool := s.pcu.mode == .active

/-- The control state is LOCAL or LOCAL_LOCKED (R48). -/
def Control.isLocal (c : Control) : Bool := c == .localControl || c == .localLocked

/-- The control state suppresses fires (R48). -/
def State.suppresses (s : State) : Bool := s.tke.control.isLocal

/-- The configured roles include role bit `b` (R188). -/
def State.hasRole (s : State) (b : Nat) : Bool := s.values.roles.getLsbD b

/-- The role bit of DIRECTOR (R188). -/
def directorBit : Nat := 0

/-- The role bit of FLOOR (R188). -/
def floorBit : Nat := 6

/-- The role mask of the DIRECTOR role alone. -/
def directorMask : Byte := 1

/-- The role mask of the FLOOR role alone. -/
def floorMask : Byte := 0x40

/-- The address of all stations (R104). -/
def toAll : Address := ⟨false, 0xFF⟩

/-- The address of the DIRECTOR role (R129). -/
def toDirectors : Address := ⟨false, directorMask⟩

/-- The address of one station number (R104). -/
def toNumber (k : Nat) : Address := ⟨true, BitVec.ofNat 8 k⟩

/-- `v` clamped to lo … hi (00_scope "saturates", "clamped"). -/
def clampInt (lo hi v : Int) : Int := max lo (min hi v)

/-! ### The run list (R1) -/

/-- The item with an ID, when it is in the list (R1). -/
def State.findItem (s : State) (id : ItemId) : Option Item := s.rls.items.find? (·.id == id)

/-- The list with one item's record changed. -/
def modItemIn (id : ItemId) (f : Item → Item) (l : List Item) : List Item :=
  l.map fun i => if i.id == id then f i else i

/-- One item's record changed. -/
def State.modItem (id : ItemId) (f : Item → Item) (s : State) : State := s.setRls ⟨modItemIn id f s.rls.items⟩

/-- An item with one element's record changed. -/
def Item.modElement (e : Nat) (f : Element → Element) (i : Item) : Item :=
  { i with elements := i.elements.map fun x => if x.id == e then f x else x }

/-- One element's record changed. -/
def State.modElement (id : ItemId) (e : Nat) (f : Element → Element) (s : State) : State :=
  s.modItem id (Item.modElement e f)

/-- The element of an item with an ID. -/
def Item.findElement (i : Item) (e : Nat) : Option Element := i.elements.find? (·.id == e)

/-- An element of an item of the list. -/
def State.findElement (s : State) (id : ItemId) (e : Nat) : Option Element :=
  (s.findItem id).bind (·.findElement e)

/-- The element IDs of an item, in element-ID order (R1). -/
def State.elementIds (s : State) (id : ItemId) : List Nat :=
  match s.findItem id with
  | none => []
  | some i => i.elements.map (·.id)

/-- Element records in use, of the pool's 256 (R1). -/
def poolUsed (l : List Item) : Nat := (l.map (·.elements.length)).sum

/-- The items after the item with ID `pos`, or all of them from the head (R1). -/
def itemsAfter (pos : Option ItemId) (l : List Item) : List Item :=
  match pos with
  | none => l
  | some p => (l.dropWhile (·.id != p)).drop 1

/-- The current position (R28): the OWN on-air item, and the last-aired position otherwise. -/
def State.position (s : State) : Option ItemId :=
  match s.tke.onAir with
  | .own i => some i
  | _ => s.tke.lastAired

/-- The items after the current position, in run-list order (R28, R29, R61). -/
def State.afterPosition (s : State) : List Item := itemsAfter s.position s.rls.items

/-- The first WAITING item after the current position (R29, R42). -/
def State.nextWaiting (s : State) : Option ItemId :=
  (s.afterPosition.find? (·.state == .waiting)).map (·.id)

/-- The next item (R29): the standby item, else the first WAITING item after the current position. -/
def State.nextItem (s : State) : Option ItemId :=
  match s.tke.standby with
  | some i => some i
  | none => s.nextWaiting

/-- "Passed" (R1): WAITING and at a position before the current position. -/
def State.passed (s : State) (i : Item) : Bool :=
  i.state == .waiting && !(s.afterPosition.any (·.id == i.id)) && s.position != some i.id

/-- The on-air item ID, or 0 for NONE (R133, R137). -/
def OnAir.itemId : OnAir → ItemId
  | .none => 0
  | .own i => i
  | .foreign i _ _ => i

/-- The pending take's item ID, or 0 (R133). -/
def State.pendingItemId (s : State) : ItemId :=
  match s.tke.pendingTake with
  | none => 0
  | some p => p.item

/-- `x` directly after the item with ID `anchor` (R11, R13). -/
def insertAfter (x : Item) (anchor : ItemId) : List Item → List Item
  | [] => []
  | i :: l => if i.id == anchor then i :: x :: l else i :: insertAfter x anchor l

/-- `x` placed FIRST (anchor 0) or AFTER the anchor item (R11, R13, R190). -/
def placeItem (x : Item) (anchor : ItemId) (l : List Item) : List Item :=
  if anchor = 0 then x :: l else insertAfter x anchor l

/-- The item directly before the item with an ID, or the head (R14, R28). -/
def itemBefore (id : ItemId) : List Item → Option ItemId
  | i :: j :: l => if j.id == id then some i.id else itemBefore id (j :: l)
  | _ => none

/-- An element put in element-ID order, in place of one with the same ID (R15). -/
def putElement (e : Element) : List Element → List Element
  | [] => [e]
  | x :: l =>
    if x.id = e.id then e :: l
    else if e.id < x.id then e :: x :: l
    else x :: putElement e l

/-! ### The elements' changes of state (R4, R5) -/

/-- An element returned to IDLE as a standby or a take leaves it before placing (R41, R88). -/
def Element.reset (e : Element) : Element :=
  { e with state := .idle, primeFrame := none, remainder := none, late := 0 }

/-- An element made SKIPPED: no prime frame and no held remainder (R4, R38, R43). -/
def Element.skip (e : Element) : Element :=
  { e with state := .skipped, primeFrame := none, remainder := none }

/-- An element is primable when its pre-roll is above 0 (R4). -/
def Element.primable (e : Element) : Bool := decide (0 < e.preRoll)

/-- Whether an item has a needs-ready element whose ready flag is clear (R7, R41, R127). -/
def Item.notReady (i : Item) : Bool := i.elements.any fun e => e.needsReady && !e.ready

end Sys2Proof.Machine
end

