-- ==== Sys2Proof/Machine/Queues.lean ====
section
/-! DEFINITION. The Outbound Queues (chapter 9): admission, coalescing, the CLEAR purge, backpressure and the choice
of the next frame. -/

namespace Sys2Proof.Machine

/-- What a submitter learns at once (R157). -/
inductive Admission where
  /-- Admitted; with the frame's sequence number for an acknowledged kind. -/
  | admitted (sequence : Option Byte)
  /-- Refused QUEUE_BUSY (R165). -/
  | queueBusy
  /-- Refused at capacity. -/
  | queueFull
deriving DecidableEq, Repr

/-- Whether the frame was admitted. -/
def Admission.isAdmitted : Admission → Bool
  | .admitted _ => true
  | _ => false

/-- An entry bears the in-flight mark (R159). -/
def QueueEntry.inFlight (e : QueueEntry) : Bool := e.flight.isSome

/-- An entry holds a CLAIM. -/
def QueueEntry.isClaim (e : QueueEntry) : Bool := e.payload.kind == .claim

/-- The backpressure state after the routine queue's count has become `n` (R165). -/
def backpressureAfter (upper lower n : Nat) : Backpressure → Backpressure
  | .admitting => if upper ≤ n then .busy else .admitting
  | .busy => if n ≤ lower then .admitting else .busy

/-- The routine queue written, with the backpressure state following its count when the count changes (R165). -/
def OutboundQueues.setRoutine (v : Config.Values) (r : List QueueEntry) (q : OutboundQueues) : OutboundQueues :=
  { q with
    routine := r
    backpressure :=
      if r.length = q.routine.length then q.backpressure
      else backpressureAfter v.upper v.lower r.length q.backpressure }

/-- Whether a submitted frame coalesces with an entry: an unsent STANDBY or SWEEP, or an unsent CUE or STRETCH for the
same item (R162, R163). -/
def coalesces (p : Payload) (e : QueueEntry) : Bool :=
  !e.inFlight && match p, e.payload with
    | .standby _, .standby _ => true
    | .sweep _, .sweep _ => true
    | .cue i _, .cue j _ => i == j
    | .stretch i _, .stretch j _ => i == j
    | _, _ => false

/-- The payload of an entry that a submission rewrites: the new frame's, and for a STRETCH the sum of the deltas,
clamped (R162, R163). -/
def rewritten (p : Payload) (old : Payload) : Payload :=
  match p, old with
  | .stretch i d, .stretch _ d' => .stretch i (clampInt (-32768) 32767 (d' + d))
  | n, _ => n

/-- The air queue with its first coalescing entry rewritten in place (R162, R163). -/
def coalesceInto (p : Payload) (a : Address) (sub : Submitter) : List QueueEntry → List QueueEntry
  | [] => []
  | e :: l =>
    if coalesces p e then { e with payload := rewritten p e.payload, address := a, submitter := sub } :: l
    else e :: coalesceInto p a sub l

/-- The entry of a frame that joins a queue: numbered from the sequence counter when its kind is acknowledged (R158). -/
def newEntry (p : Payload) (a : Address) (sub : Submitter) (sequence : Byte) : QueueEntry where
  payload := p
  address := a
  sequence := if p.kind.acknowledged then some sequence else none
  submitter := sub
  flight := none
  tied := false
  superseded := false
  sentOnce := false

/-- The sequence counter after a frame of kind `k` has joined a queue (R158). -/
def sequenceAfter (k : Kind) (c : Byte) : Byte := if k.acknowledged then c + 1 else c

/-- A CLEAR purge removes the unsent entries of these kinds (R164). -/
def removable (e : QueueEntry) : Bool :=
  !e.inFlight && match e.payload.kind with
    | .standby | .take | .hold | .resume | .cue => true
    | _ => false

/-- An entry placed directly behind the entry in flight, or at the head (R164). -/
def behindFlight (c : QueueEntry) : List QueueEntry → List QueueEntry
  | [] => [c]
  | e :: l => if e.inFlight then e :: c :: l else c :: e :: l

/-- The SEND_RESULT of an entry that a purge removed (R164). -/
def purgedEvent (e : QueueEntry) : Event :=
  .sendResult e.payload.kind (e.sequence.getD 0) e.address 0 0 0 .purged

/-- The submission of a CLEAR (R157 test 2, R164). -/
def State.submitClear (a : Address) (sub : Submitter) (s : State) : State × Admission :=
  let kept := s.obq.air.filter fun e => !removable e
  if Config.airCapacity ≤ kept.length then (s, .queueFull)
  else
    let c := newEntry .clear a sub s.obq.sequence
    let s' := s.setObq { s.obq with air := behindFlight c kept, sequence := sequenceAfter .clear s.obq.sequence }
    ((s.obq.air.filter removable).foldl (fun t e => t.post (purgedEvent e)) s', .admitted c.sequence)

/-- The sequence number that a coalesced submission reports: that of the entry it rewrote (R158). -/
def coalescedSequence (p : Payload) (air : List QueueEntry) : Option Byte :=
  (air.find? (coalesces p)).bind (·.sequence)

/-- The submission of any other frame to the air queue (R157 tests 1, 4 and 5). -/
def State.submitAir (p : Payload) (a : Address) (sub : Submitter) (s : State) : State × Admission :=
  if s.obq.air.any (coalesces p) then
    (s.setObq { s.obq with air := coalesceInto p a sub s.obq.air }, .admitted (coalescedSequence p s.obq.air))
  else if Config.airCapacity ≤ s.obq.air.length then (s, .queueFull)
  else
    let e := newEntry p a sub s.obq.sequence
    (s.setObq { s.obq with air := s.obq.air ++ [e], sequence := sequenceAfter p.kind s.obq.sequence },
     .admitted e.sequence)

/-- The submission of a frame to the routine queue (R157 tests 3 to 5); a SEND alone meets the backpressure state. -/
def State.submitRoutine (p : Payload) (a : Address) (sub : Submitter) (s : State) : State × Admission :=
  if s.obq.backpressure == .busy && sub == .equipmentPort then (s, .queueBusy)
  else if Config.routineCapacity ≤ s.obq.routine.length then (s, .queueFull)
  else
    let e := newEntry p a sub s.obq.sequence
    (s.setObq ({ s.obq with sequence := sequenceAfter p.kind s.obq.sequence }.setRoutine s.values
      (s.obq.routine ++ [e])), .admitted e.sequence)

/-- The submission of a frame to the queue of its kind's urgency (R156, R157). -/
def State.submit (p : Payload) (a : Address) (sub : Submitter) (s : State) : State × Admission :=
  if p.kind == .clear then s.submitClear a sub
  else if p.kind.inAir then s.submitAir p a sub
  else s.submitRoutine p a sub

/-- An automatic ATTENTION to the DIRECTOR role: submitted only while ACTIVE, and lost when the air queue is full
(R129, R130). -/
def State.autoAttention (r : Reason) (i : ItemId) (s : State) : State :=
  if s.isActive then (s.submit (.attention r i) toDirectors .automatic).1 else s

/-- An ANNOUNCE, its body formed at submission (R136, R137); lost when the routine queue is at capacity (R166). -/
def State.announce (s : State) : State :=
  (s.submit (.announce s.pcu.identity s.values.roles s.tke.control s.tke.onAir.itemId (s.tke.standby.getD 0)) toAll
    .peerCensus).1

/-! ### Choosing the next frame (R159, R160) -/

/-- The two queues (R188). -/
inductive QueueName where
  | air | routine
deriving DecidableEq, Repr

/-- An entry in flight that is not a CLAIM, with its queue: outside a claim at most one (R159). -/
def State.flightEntry (s : State) : Option (QueueName × QueueEntry) :=
  match s.obq.air.find? (·.inFlight) with
  | some e => some (.air, e)
  | none => (s.obq.routine.find? fun e => e.inFlight && !e.isClaim).map ((.routine, ·))

/-- The queue that the ring chooses (R160): the one its slot names, or the other when that one is empty. -/
def State.ringQueue (s : State) : QueueName :=
  if s.values.ring.getLsbD s.obq.ringPointer then
    if s.obq.air.isEmpty then .routine else .air
  else
    if s.obq.routine.isEmpty then .air else .routine

/-- What the Outbound Queues offer at a send opportunity: the entry's queue and the entry, and whether the ring chose
it (R159). -/
def State.offer (s : State) : Option (QueueName × QueueEntry × Bool) :=
  match s.pcu.mode with
  | .listenOnly => none
  | .claiming => (s.obq.routine.find? (·.isClaim)).map (.routine, ·, false)
  | .active =>
    match s.flightEntry with
    | some (q, e) => some (q, e, false)
    | none =>
      match s.ringQueue with
      | .air => s.obq.air.head?.map (.air, ·, true)
      | .routine => s.obq.routine.head?.map (.routine, ·, true)

/-- The first entry of a list that satisfies `sel`, changed. -/
def modFirst (sel : QueueEntry → Bool) (f : QueueEntry → QueueEntry) : List QueueEntry → List QueueEntry
  | [] => []
  | e :: l => if sel e then f e :: l else e :: modFirst sel f l

/-- A list less its first entry that satisfies `sel`. -/
def dropFirst (sel : QueueEntry → Bool) : List QueueEntry → List QueueEntry
  | [] => []
  | e :: l => if sel e then l else e :: dropFirst sel l

/-- The queue of a name. -/
def OutboundQueues.get (q : OutboundQueues) : QueueName → List QueueEntry
  | .air => q.air
  | .routine => q.routine

/-- One queue written (R165). -/
def OutboundQueues.put (v : Config.Values) (n : QueueName) (l : List QueueEntry) (q : OutboundQueues) :
    OutboundQueues :=
  match n with
  | .air => { q with air := l }
  | .routine => q.setRoutine v l

/-- One queue of the state rewritten. -/
def State.modQueue (n : QueueName) (f : List QueueEntry → List QueueEntry) (s : State) : State :=
  s.setObq (s.obq.put s.values n (f (s.obq.get n)))

/-- The station's CLAIM removed from the routine queue, in flight or not (R166). -/
def State.removeClaim (s : State) : State := s.modQueue .routine (dropFirst (·.isClaim))

end Sys2Proof.Machine
end

