-- ==== Sys2Proof/Machine/Peers.lean ====
section
/-! DEFINITION. The Peer and Census Unit's operations (chapter 8): the peer table, the claim, the number conflict, the
polls' ends and the attention list. -/

namespace Sys2Proof.Machine

/-! ### The peer table (R146 to R149) -/

/-- A new peer entry: every optional value absent, no misses (R146). -/
def Peer.new (p : Presence) : Peer where
  presence := p
  roles := none
  identity := none
  control := none
  onAir := none
  standby := none
  lastSequence := none
  misses := 0
  lastHeard := none

/-- The entry at position `k` of the peer table, when one is held (R146). -/
def PeerCensus.peer (p : PeerCensus) (k : Nat) : Option Peer :=
  if k = 0 then none else (p.peers[k - 1]?).join

/-- Position `k` of the peer table written (R146). -/
def PeerCensus.setPeer (k : Nat) (e : Option Peer) (p : PeerCensus) : PeerCensus :=
  if k = 0 then p else { p with peers := p.peers.set (k - 1) e }

/-- Position `k` of the peer table written. -/
def State.setPeer (k : Nat) (e : Option Peer) (s : State) : State := s.setPcu (s.pcu.setPeer k e)

/-- The entry of `k`, created with `p` when none is held (R146). -/
def PeerCensus.peerOr (p : PeerCensus) (k : Nat) (new : Presence) : Peer := (p.peer k).getD (Peer.new new)

/-- The presence that position `k` reads as: UNKNOWN without an entry (R150). -/
def PeerCensus.presence (p : PeerCensus) (k : Nat) : Presence :=
  match p.peer k with
  | none => .unknown
  | some e => e.presence

/-- An entry written for `k`, with a PEER_CHANGE when its presence differs from what position `k` read as
(R149). -/
def State.writePeer (k : Nat) (e : Peer) (cause : PeerCause) (s : State) : State :=
  let old := s.pcu.presence k
  let s' := s.setPeer k (some e)
  if old = e.presence then s' else s'.post (.peerChange k old e.presence cause e.roles e.identity)

/-- Peer `k` heard or answering: PRESENT, no misses, last heard now (R111, R147). -/
def State.touchPeer (k : Nat) (cause : PeerCause) (s : State) : State :=
  s.writePeer k { s.pcu.peerOr k .present with presence := .present, misses := 0, lastHeard := some s.now } cause

/-- The answered set of a roll-call field: the slots read dominant, less the own number (R111). -/
def State.answered (s : State) (slots : StationSet) : StationSet := without (stationsOnly slots) s.pcu.ownNumber

/-- The census of an answered set (R111), in rising station number (DESIGN CHOICE, unsafe: R111 gives a set; log entry
36). -/
def State.rollCall (answered : StationSet) (s : State) : State :=
  (members answered).foldl (fun t k => t.touchPeer k .answered) s

/-- One missing peer: its miss count rises, and at the absent limit it becomes ABSENT (R116, R149). -/
def State.missPeer (k : Nat) (s : State) : State :=
  let e := s.pcu.peerOr k .unknown
  let n := min 15 (e.misses + 1)
  if s.values.absentLimit ≤ n ∧ e.presence ≠ .absent then
    (s.writePeer k { e with misses := n, presence := .absent } .missed).raise .peerAbsent
  else s.setPeer k (some { e with misses := n })

/-- The misses of a missing set (R116), in rising station number (DESIGN CHOICE, unsafe: R116 gives a set; log entry 36). -/
def State.missPeers (missing : StationSet) (s : State) : State :=
  (members missing).foldl (fun t k => t.missPeer k) s

/-- The values that an ANNOUNCE writes into the sender's entry (R147): identity and roles always, a changed identity
making the last sequence absent; control state and item IDs when they are within their codes. -/
def Peer.announced (w : Wire) (p : Peer) : Peer :=
  let id := field48 w.body 0
  let p := if p.identity.isSome && p.identity != some id then { p with lastSequence := none } else p
  let p := { p with identity := some id, roles := some (byteAt w.body 6) }
  match Control.ofCode (byteAt w.body 7) with
  | some c =>
    if reportableItem (field16 w.body 8) && reportableItem (field16 w.body 10) then
      { p with control := some c, onAir := some (field16 w.body 8), standby := some (field16 w.body 10) }
    else p
  | none => p

/-- The values that a STATUS writes into the sender's entry: its control state (R147). -/
def Peer.reported (w : Wire) (p : Peer) : Peer :=
  match Control.ofCode (byteAt w.body 0) with
  | some c => { p with control := some c }
  | none => p

/-- The sender's entry changed, when one is held. -/
def State.modPeer (k : Nat) (f : Peer → Peer) (s : State) : State :=
  match s.pcu.peer k with
  | none => s
  | some e => s.setPeer k (some (f e))

/-- The census hand-off of a heard frame of kind `kd` from `w.sender` (R106, R147); a CLAIM waits for its
roll-call field (R148). -/
def State.census (kd : Kind) (w : Wire) (s : State) : State :=
  let k := w.sender.toNat
  if kd = .claim ∨ k = s.pcu.ownNumber then s
  else
    let s := s.touchPeer k .heard
    match kd with
    | .announce => s.modPeer k (Peer.announced w)
    | .status => s.modPeer k (Peer.reported w)
    | _ => s

/-- A heard CLAIM at the end of its roll-call field (R113, R148). -/
def State.censusClaim (w : Wire) (slots : StationSet) (s : State) : State :=
  let k := w.sender.toNat
  if inSet slots k ∨ k = s.pcu.ownNumber then s
  else
    s.writePeer k
      { presence := .present, roles := some (byteAt w.body 6), identity := some (field48 w.body 0), control := none,
        onAir := none, standby := none, lastSequence := none, misses := 0, lastHeard := some s.now } .claimed

/-- The expected set of a frame to an address (R114). -/
def State.expectedSet (a : Address) (s : State) : StationSet :=
  if a.byNumber then
    let k := (a.value &&& 0x1F).toNat
    if k = s.pcu.ownNumber then 0 else single k
  else
    stationNumbers.foldl (fun t k =>
      match s.pcu.peer k with
      | some e =>
        let named := a.value == 0xFF || (match e.roles with | some r => (r &&& a.value) != 0 | none => false)
        if e.presence == .present && named then t ||| single k else t
      | none => t) 0

/-! ### The claim (R140 to R145) -/

/-- A CLAIM for the candidate submitted to the routine queue; at capacity it waits for the next frame pulse
(R140, R166). -/
def State.submitClaim (s : State) : State :=
  match s.pcu.candidate with
  | none => s
  | some k =>
    let r := s.submit (.claim k s.pcu.identity s.values.roles) (toNumber k) .peerCensus
    r.1.setPcu { r.1.pcu with claimWaiting := !r.2.isAdmitted }

/-- A claim begins at candidate `k` (R140); in CLAIMING the own number is 0 (R139). -/
def State.beginClaim (k : Nat) (s : State) : State :=
  (s.setPcu { s.pcu with ownNumber := 0, mode := .claiming, candidate := some k, tries := 0 }).submitClaim

/-- The candidate after `k`, 30 followed by 1 (R142). -/
def nextCandidate (k : Nat) : Nat := if k = 30 then 1 else k + 1

/-- The candidate of a claim in progress is refused (R142). -/
def State.refuseCandidate (s : State) : State :=
  let n := s.pcu.tries + 1
  if s.pcu.mode ≠ .claiming then s
  else if 30 ≤ n then
    (s.setPcu { s.pcu with tries := n, mode := .listenOnly, candidate := none, claimWaiting := false }).raise .claimFailed
  else
    (s.setPcu { s.pcu with tries := n, candidate := s.pcu.candidate.map nextCandidate }).submitClaim

/-- A number won is left out of the expected set of a frame in flight (R114, R143). -/
def QueueEntry.forgetExpected (k : Nat) (e : QueueEntry) : QueueEntry :=
  { e with flight := e.flight.map fun f => { f with expected := without f.expected k } }

/-- The number `k` is won (R143). -/
def State.winNumber (k : Nat) (s : State) : State :=
  let s := s.setPcu { (s.pcu.setPeer k none) with ownNumber := k, candidate := none, mode := .active, tries := 0 }
  let s := s.setObq { s.obq with
    air := s.obq.air.map (QueueEntry.forgetExpected k), routine := s.obq.routine.map (QueueEntry.forgetExpected k) }
  s.announce

/-- A guarded take told that the station has stopped being ACTIVE (R32 check 2, R145; log entry 41). -/
def TakeEngine.lapseGuarded (t : TakeEngine) : TakeEngine :=
  { t with guarded := t.guarded.map fun g => { g with lapsed := true } }

/-- A number conflict: the own number `k` heard in the sender field of a frame of kind `kd` (R145). -/
def State.numberConflict (kd : Kind) (s : State) : State :=
  let k := s.pcu.ownNumber
  let s := (s.post (.numberConflict k kd)).raise .numberConflict
  ((s.setTke s.tke.lapseGuarded).setPcu { s.pcu with previous := k }).beginClaim k

/-- The CLAIM of a claim in progress done (R141): `heldElsewhere` when it was DROPPED or the candidate's slot read
dominant. -/
def State.claimDone (heldElsewhere : Bool) (s : State) : State :=
  if heldElsewhere then s.refuseCandidate
  else match s.pcu.mode, s.pcu.candidate with
    | .claiming, some k => s.winNumber k
    | _, _ => s

/-! ### Polls (R152, R133, R134) -/

/-- A poll ends: the result is written, the state becomes IDLE and POLL_RESULT is posted (R152). -/
def State.endPoll (target : Nat) (cause : PollCause) (body : Option StatusBody) (s : State) : State :=
  (s.setPcu { s.pcu with
    poll := .idle
    pollResult := some { target := target, cause := cause, count := s.now, body := body } }).post
    (.pollResult target cause body)

/-- A POLL of this station is done, with its answered set (R152). -/
def State.pollDone (outcome : SentOutcome) (answered : StationSet) (s : State) : State :=
  match s.pcu.poll with
  | .queued t =>
    match outcome with
    | .dropped => s.endPoll t .dropped none
    | .sent =>
      if inSet answered t then
        s.setPcu { s.pcu with poll := .awaiting t (s.now + BitVec.ofNat 32 s.values.pollTimeout) }
      else s.endPoll t .notAccepted none
  | _ => s

/-- The timeout frame of an AWAITING poll is now (R152). -/
def State.pollTimedOut (s : State) : Bool :=
  match s.pcu.poll with
  | .awaiting _ t => t == s.now
  | _ => false

/-- The poll ends at its timeout frame (R152). -/
def State.timeoutPoll (s : State) : State :=
  match s.pcu.poll with
  | .awaiting target t => if t == s.now then s.endPoll target .timeout none else s
  | _ => s

/-- U as a STATUS carries it: 0x800000 while it is absent (R77). -/
def State.statusOver (s : State) : BitVec 24 :=
  match s.tmc.result.bind (·.segment) with
  | none => 0x800000
  | some v => BitVec.ofInt 24 v.overUnder

/-- The body of a STATUS formed now (R133). -/
def State.statusBody (s : State) : StatusBody where
  control := s.tke.control.code
  onAir := s.tke.onAir.itemId
  standby := s.tke.standby.getD 0
  pending := s.pendingItemId
  fireCount := BitVec.ofNat 8 s.fsc.queue.length
  overUnder := s.statusOver
  groups := s.eqp.groups.zeroExtend 8

/-- A STATUS submitted in answer to an accepted POLL (R133, R152). -/
def State.answerPoll (poller : Nat) (s : State) : State :=
  (s.submit (.status s.statusBody) (toNumber poller) .peerCensus).1

/-! ### The attention list (R153, R154) -/

/-- The record of a pair of sender and reason. -/
def AttentionRecord.isFor (sender : Nat) (r : Reason) (a : AttentionRecord) : Bool :=
  a.sender == sender && a.reason == r

/-- An accepted ATTENTION recorded, with its event and flags (R153). -/
def State.recordAttention (sender : Nat) (r : Reason) (i : ItemId) (s : State) : State :=
  match s.pcu.attention.find? (AttentionRecord.isFor sender r) with
  | some a =>
    let n := min 15 (a.count + 1)
    let l := s.pcu.attention.map fun x => if x.isFor sender r then { x with count := n, item := i } else x
    ((s.setPcu { s.pcu with attention := l }).post (.attentionIn sender r i .counted n)).raise .attentionIn
  | none =>
    if s.pcu.attention.length < Config.attentionCapacity then
      let a : AttentionRecord := { sender := sender, reason := r, item := i, count := 1, first := s.now }
      ((s.setPcu { s.pcu with attention := s.pcu.attention ++ [a] }).post (.attentionIn sender r i .new 1)).raise
        .attentionIn
    else
      ((s.raise .attentionListFull).post (.attentionIn sender r i .notRecorded 0)).raise .attentionIn

end Sys2Proof.Machine
end

