-- ==== Sys2Proof/Machine/Fire.lean ====
section
/-! DEFINITION. The Fire Scheduler's operations (chapter 5): the fire queue, the placing of an element, the overflow,
the execution of PRIME and GO, and the fire lines. -/

namespace Sys2Proof.Machine

/-! ### The fire queue (R79 to R81) -/

/-- An entry placed after the last entry whose due is at or before its own (R80). -/
def insertEntry (e : FireEntry) : List FireEntry → List FireEntry
  | [] => [e]
  | x :: l =>
    if (x :: l).any fun y => Count.atOrBefore y.due e.due then x :: insertEntry e l else e :: x :: l

/-- The fire queue written. -/
def State.setQueue (q : List FireEntry) (s : State) : State := s.setFsc { s.fsc with queue := q }

/-- The free entries of the fire queue (R79). -/
def FireScheduler.free (f : FireScheduler) : Nat := Config.fireCapacity - f.queue.length

/-- An entry belongs to an element. -/
def FireEntry.isOf (id : ItemId) (e : Nat) (x : FireEntry) : Bool := x.item == id && x.element == e

/-- Withdrawal of an element (R81). -/
def State.withdraw (id : ItemId) (e : Nat) (s : State) : State :=
  s.setQueue (s.fsc.queue.filter fun x => !x.isOf id e)

/-- The GO entry that the queue holds for an element. -/
def State.goEntry (s : State) (id : ItemId) (e : Nat) : Option FireEntry :=
  s.fsc.queue.find? fun x => x.isOf id e && x.action == .go

/-- The queue holds an entry for an element. -/
def State.hasEntry (s : State) (id : ItemId) (e : Nat) : Bool := s.fsc.queue.any (FireEntry.isOf id e)

/-- A RELEASE event for an element that is PRIMED (R8, R81). -/
def State.releaseIfPrimed (id : ItemId) (x : Element) (s : State) : State :=
  if x.state = .primed then s.post (.release id x.id) else s

/-- `f` applied for each element of an item in element-ID order, each as the step before left it (R80). -/
def State.eachElement (id : ItemId) (f : Element → State → State) (s : State) : State :=
  (s.elementIds id).foldl (fun t e => match t.findElement id e with | none => t | some x => f x t) s

/-! ### Placing an element (R82 to R86) -/

/-- The overflow rule (R82). -/
def State.overflow (id : ItemId) (e : Nat) (s : State) : State :=
  let s := (s.modElement id e fun x => { x.skip with late := 0 }).raise .fireOverflow
  if s.fsc.latch then s
  else
    let s := s.autoAttention .fireOverflow id
    s.setFsc { s.fsc with latch := true }

/-- The late frames of a GO: the frames by which it falls after its due, saturating at 255 (R86). -/
def lateOf (due go : Count) : Nat := min Config.byteMax (Count.diff due go).toNat

/-- An item with the late frames of one element written, the item's own raised to them (R6, R86). -/
def Item.writeLate (e late : Nat) (i : Item) : Item :=
  { i.modElement e (fun x => { x with late := late }) with lateFrames := max i.lateFrames late }

/-- The entries that an element needs placed all together, or none of them and the overflow rule (R80, R82); with the
GO placed, its lateness is recorded (R86).  The second answer is whether the GO fell after its due. -/
def State.placeEntries (id : ItemId) (e : Nat) (prime : Option Count) (go due : Count) (st : ElementState)
    (s : State) : State × Bool :=
  let needed : List FireEntry :=
    (match prime with | some q => [⟨q, .prime, id, e⟩] | none => []) ++ [⟨go, .go, id, e⟩]
  if s.fsc.free < needed.length then (s.overflow id e, false)
  else
    let late := lateOf due go
    let s := s.setQueue (needed.foldl (fun q x => insertEntry x q) s.fsc.queue)
    let s := s.modElement id e fun x => { x with state := st, remainder := none }
    let s := s.modItem id (Item.writeLate e late)
    (if 0 < late then s.raise .prerollShort else s, decide (0 < late))

/-- The due frame of an element of an item on air from `S` with planned duration `P` (R83).  An END due that would
come before S is S. -/
def dueOf (S : Count) (P : Nat) (x : Element) : Count :=
  match x.anchor with
  | .start => S + BitVec.ofNat 32 x.offset
  | .ending => S + BitVec.ofNat 32 (P - x.offset)

/-- An element placed as not primed (R84): a GO at its due, and for a primable element a PRIME at the later of the
earliest frame and the due less p, with the GO at least p frames after it. -/
def State.placeUnprimed (id : ItemId) (x : Element) (earliest due : Count) (s : State) : State × Bool :=
  if x.primable then
    let p : Count := BitVec.ofNat 32 x.preRoll
    let prime := Count.later earliest (due - p)
    s.placeEntries id x.id (some prime) (Count.later due (prime + p)) due .scheduled
  else s.placeEntries id x.id none due due .scheduled

/-- An element already primed at frame `Q`: one GO at the later of its due and Q + p; it is PRIMED (R85). -/
def State.placePrimed (id : ItemId) (x : Element) (Q due : Count) (s : State) : State × Bool :=
  s.placeEntries id x.id none (Count.later due (Q + BitVec.ofNat 32 x.preRoll)) due .primed

/-- One operation that places GO entries for an item: `f` for each element in element-ID order, then at most one
PREROLL_SHORT ATTENTION (R80, R86). -/
def State.placeEach (id : ItemId) (f : Element → State → State × Bool) (s : State) : State :=
  let r := (s.elementIds id).foldl (fun (t : State × Bool) e =>
    match t.1.findElement id e with
    | none => t
    | some x => let u := f x t.1; (u.1, t.2 || u.2)) (s, false)
  if r.2 then r.1.autoAttention .prerollShort id else r.1

/-- Priming at standby of one element (R87): a PRIME at now + 1, or the overflow rule. -/
def State.primeElement (id : ItemId) (x : Element) (s : State) : State :=
  if !x.primable then s
  else if s.fsc.free < 1 then s.overflow id x.id
  else
    let s := s.setQueue (insertEntry ⟨s.nextFrame, .prime, id, x.id⟩ s.fsc.queue)
    s.modElement id x.id fun y => { y with state := .scheduled }

/-- Scheduling of one element at a take (R88), for an item on air from `S` whose take was placed at `arrival`. -/
def State.scheduleElement (id : ItemId) (S arrival : Count) (P : Nat) (retake : Bool) (x : Element) (s : State) :
    State × Bool :=
  let afresh : State × Bool :=
    let s := (s.withdraw id x.id).modElement id x.id Element.reset
    s.placeUnprimed id x (Count.later (arrival + 1) S) (dueOf S P x)
  match x.state, x.primeFrame with
  | .primed, some Q => if retake then afresh else s.placePrimed id x Q (dueOf S P x)
  | _, _ => afresh

/-- Rescheduling of one element on a change of P of the on-air item (R9). -/
def State.rescheduleElement (id : ItemId) (S : Count) (P : Nat) (x : Element) (s : State) : State × Bool :=
  if x.anchor = .ending ∧ (x.state = .scheduled ∨ x.state = .primed) then
    let due := dueOf S P x
    let due := if Count.atOrBefore due s.now then s.nextFrame else due
    let s := s.withdraw id x.id
    match x.state, x.primeFrame with
    | .primed, some Q => s.placePrimed id x Q due
    | _, _ => s.placeUnprimed id x s.nextFrame due
  else (s, false)

/-- Rescheduling of the on-air item's END-anchored elements with its new P (R9). -/
def State.reschedule (i : Item) (s : State) : State :=
  match i.airStart with
  | none => s
  | some S => s.placeEach i.id (State.rescheduleElement i.id S i.duration)

/-- The placing of an element loaded into the on-air item (R16). -/
def State.placeLoaded (i : Item) (x : Element) (s : State) : State × Bool :=
  let due := dueOf (i.airStart.getD s.now) i.duration x
  if Count.before due s.now then (s.modElement i.id x.id Element.skip, false)
  else if i.held then
    (s.modElement i.id x.id fun y =>
      { y with state := .held, remainder := some (max 1 (Count.diff s.now due).toNat) }, false)
  else s.placeUnprimed i.id x s.nextFrame (if due = s.now then s.nextFrame else due)

/-- The placing of a HELD element at a RESUME (R45). -/
def State.resumeElement (id : ItemId) (x : Element) (s : State) : State × Bool :=
  if x.state = .held then
    let due := s.now + BitVec.ofNat 32 (x.remainder.getD 1)
    match x.primeFrame with
    | some _ => s.placeEntries id x.id none due due .primed
    | none => s.placeUnprimed id x s.nextFrame due
  else (s, false)

/-! ### Leaving the queue -/

/-- The HOLD of one element (R44): one that is SCHEDULED, PRIMED or SUPPRESSED and holds a GO entry. -/
def State.holdElement (id : ItemId) (x : Element) (s : State) : State :=
  match s.goEntry id x.id with
  | none => s
  | some g =>
    if x.state = .scheduled ∨ x.state = .primed ∨ x.state = .suppressed then
      (s.withdraw id x.id).modElement id x.id fun y =>
        { y with state := .held, remainder := some (max 1 (Count.diff s.now g.due).toNat) }
    else s

/-- The CLEAR of one element of the on-air item that holds an entry (R43 step 4). -/
def State.clearElement (id : ItemId) (x : Element) (s : State) : State :=
  if s.hasEntry id x.id then
    ((s.withdraw id x.id).modElement id x.id Element.skip).releaseIfPrimed id x
  else s

/-- The elements of an item withdrawn with their RELEASE events and no further change (R39, retake). -/
def State.withdrawElement (id : ItemId) (x : Element) (s : State) : State :=
  (s.withdraw id x.id).releaseIfPrimed id x

/-! ### The fire lines (R92 to R96) -/

/-- A fire line's state. -/
def FireScheduler.line (f : FireScheduler) (n : Nat) : FireLine := f.lines.getD n .inactive

/-- One fire line written. -/
def State.setLine (n : Nat) (l : FireLine) (s : State) : State := s.setFsc { s.fsc with lines := s.fsc.lines.set n l }

/-- A line's mode is LEVEL (R183). -/
def State.isLevel (s : State) (n : Nat) : Bool := s.values.lineModes.getLsbD n

/-- The end frame of a hold that begins now (R94). -/
def State.holdEnd (s : State) (duration : Nat) : Count := s.now + BitVec.ofNat 32 (max duration 1)

/-- A GO on fire line `n`, by its line mode (R92 to R95). -/
def State.driveLine (n : Nat) (id : ItemId) (x : Element) (s : State) : State × LineOutcome :=
  if s.isLevel n then
    let s' := s.setLine n (.held id x.id (s.holdEnd x.duration))
    match s.fsc.line n with
    | .held _ _ _ => (s', .restarted)
    | _ => (s', .held)
  else
    match s.fsc.line n with
    | .pulsing i e b =>
      if b = s.now then ((s.raise .pulseMerged).post (.pulseMerged n i e id x.id), .merged)
      else (s.setLine n (.pulsing id x.id s.now), .pulsed)
    | _ => (s.setLine n (.pulsing id x.id s.now), .pulsed)

/-- A PULSING line whose pulse began at an earlier pulse becomes INACTIVE (R89 step 1). -/
def FireLine.endPulse (now : Count) : FireLine → FireLine
  | .pulsing i e b => if b = now then .pulsing i e b else .inactive
  | l => l

/-- A HELD line whose end frame is now becomes INACTIVE (R89 step 2). -/
def FireLine.endHold (now : Count) : FireLine → FireLine
  | .held i e f => if f = now then .inactive else .held i e f
  | l => l

/-- Every hold ends at a CLEAR (R43 step 6, R96). -/
def FireLine.dropHold : FireLine → FireLine
  | .held _ _ _ => .inactive
  | l => l

/-- The fire lines changed one by one. -/
def State.mapLines (f : FireLine → FireLine) (s : State) : State := s.setFsc { s.fsc with lines := s.fsc.lines.map f }

/-! ### Executing the queue (R89 to R91) -/

/-- A suppressed element (R48): no prime frame. -/
def Element.suppress (x : Element) : Element :=
  { x with state := .suppressed, primeFrame := none, remainder := none }

/-- The GO of an element executed now, from the queue or by FORCE take-off behaviour (R48, R91). With a BOTH target the
line is driven before the GO event is posted, so a merging GO posts PULSE_MERGED before it. DEDUCED (log entry 50): the
event carries the outcome that the line rules decide, and no rule says outright which event stands first. Unsafe. -/
def State.fireGo (id : ItemId) (e : Nat) (s : State) : State :=
  match s.findElement id e with
  | none => s
  | some x =>
    if s.suppresses then s.modElement id e Element.suppress
    else
      let s := s.modElement id e fun y => { y with state := .fired, remainder := none }
      match x.target with
      | .line n => (s.driveLine n id x).1
      | .event => s.post (.go id e x.late .none)
      | .both n =>
        let r := s.driveLine n id x
        r.1.post (.go id e x.late r.2)

/-- The PRIME of an element executed now (R48, R90). -/
def State.firePrime (id : ItemId) (e : Nat) (s : State) : State :=
  match s.findElement id e with
  | none => s
  | some x =>
    if s.suppresses then s.modElement id e Element.suppress
    else
      (s.modElement id e fun y => { y with state := .primed, primeFrame := some s.now }).post
        (.prime id e x.preRoll ((s.goEntry id e).map (·.due)))

/-- The head entry is due at or before now (R89 step 3). -/
def State.headDue (s : State) : Bool :=
  match s.fsc.queue with
  | [] => false
  | e :: _ => Count.atOrBefore e.due s.now

/-- The head entry removed and executed (R89 step 3). -/
def State.executeHead (s : State) : State :=
  match s.fsc.queue with
  | [] => s
  | e :: l =>
    let s := s.setQueue l
    match e.action with
    | .prime => s.firePrime e.item e.element
    | .go => s.fireGo e.item e.element

/-- At most `n` due entries executed, one after another (R89 step 3). -/
def State.passEntries : Nat → State → State
  | 0, s => s
  | n + 1, s => if s.headDue then s.executeHead.passEntries n else s

/-- The pass over the queue (R89 step 3); an execution places no entry, so the entries held bound it. -/
def State.pass (s : State) : State := s.passEntries s.fsc.queue.length

end Sys2Proof.Machine
end

