-- ==== Sys2Proof/Machine/Timing.lean ====
section
/-! DEFINITION. The Timing Computer (chapter 4): remaining time, the segment, over/under, back-times, to-end, the cue
countdown and its stages, the lamps and the over alarm. -/

namespace Sys2Proof.Machine

/-- The on-air item's own record, when the on-air pointer is OWN (R25). -/
def State.onAirItem (s : State) : Option Item :=
  match s.tke.onAir with
  | .own id => s.findItem id
  | _ => none

/-- The counted items, in run-list order (R61). -/
def State.counted (s : State) : List Item :=
  s.afterPosition.filter fun i => i.state == .waiting || i.state == .standby

/-- The sum of the planned durations of some items (R65). -/
def sumP (l : List Item) : Nat := (l.map (·.duration)).sum

/-- Elapsed since `S` at `now`: a difference that reads as negative is reported as 2^31 − 1 (R62), for a FOREIGN item too,
where R64 gives no value (DEDUCED, unsafe; log entry 35). -/
def elapsedSince (S now : Count) : Nat :=
  if Count.diff S now < 0 then Config.spanMax else (Count.diff S now).toNat

/-- Remaining of a duration from `S`: 0 once it has run out, or once the difference reads as negative (R62; R64 for a
FOREIGN item, as log entry 35 says). -/
def remainingOf (duration : Nat) (S now : Count) : Nat :=
  if Count.diff S now < 0 then 0 else duration - (Count.diff S now).toNat

/-- What the on-air item gives the result (R62 to R64). -/
structure OnAirTiming where
  kind : OnAirKind
  item : ItemId
  elapsed : Option Nat
  remaining : Nat
  uncertain : Bool
  held : Bool
  /-- Duration less elapsed, before any SEGMENT basis (R70); absent for NONE and for UNCERTAIN. -/
  ownCountdown : Option Int
  /-- The hard out of an OWN item. -/
  hardOut : Option Nat
  /-- The cue basis is SEGMENT and the item is not held. -/
  bySegment : Bool
deriving DecidableEq, Repr

/-- The on-air item's part of the result (R62 to R64, R70). -/
def State.onAirTiming (s : State) : OnAirTiming :=
  match s.tke.onAir with
  | .foreign id d S =>
    { kind := .foreign, item := id, elapsed := some (elapsedSince S s.now), remaining := remainingOf d S s.now,
      uncertain := d == 0, held := false,
      ownCountdown := if d = 0 then none else some ((d : Int) - elapsedSince S s.now), hardOut := none,
      bySegment := false }
  | .none =>
    { kind := .none, item := 0, elapsed := none, remaining := 0, uncertain := false, held := false,
      ownCountdown := none, hardOut := none, bySegment := false }
  | .own id =>
    match s.findItem id with
    | none =>
      { kind := .own, item := id, elapsed := none, remaining := 0, uncertain := false, held := false,
        ownCountdown := none, hardOut := none, bySegment := false }
    | some i =>
      let S := i.airStart.getD s.now
      { kind := .own, item := id, elapsed := some (elapsedSince S s.now),
        remaining := if i.held then 0 else remainingOf i.duration S s.now, uncertain := false, held := i.held,
        ownCountdown := some (if i.held then 0 else (i.duration : Int) - elapsedSince S s.now),
        hardOut := i.hardOut, bySegment := i.basis == .segment && !i.held }

/-- The forward walk over the counted items (R65): those of the segment, its last item and its hard out. -/
def segmentWalk : List Item → Option (List Item × ItemId × Nat)
  | [] => none
  | i :: l =>
    match i.hardOut with
    | some h => some ([i], i.id, h)
    | none => (segmentWalk l).map fun r => (i :: r.1, r.2)

/-- The segment (R65): the on-air item's own hard out first, and the counted items after it. -/
def segmentOf (a : OnAirTiming) (counted : List Item) : Option (List Item × ItemId × Nat) :=
  match a.hardOut with
  | some h => some ([], a.item, h)
  | none => segmentWalk counted

/-- The target T_rel (R66): (H − ToD(now)) mod D. -/
def targetOf (D H tod : Nat) : Nat := (((H : Int) - tod) % D).toNat

/-- A signed number of frames from ToD(now) as a time of day (R68). -/
def todFrom (D tod : Nat) (rel : Int) : Nat := (((tod : Int) + rel) % D).toNat

/-- The back-times of the segment's counted items (R68). -/
def backTimesOf (D tod target : Nat) : List Item → List BackTime
  | [] => []
  | i :: l =>
    let rel : Int := (target : Int) - sumP (i :: l)
    { item := i.id, tod := todFrom D tod rel, negative := decide (rel < 0) } :: backTimesOf D tod target l

/-- The over/under in full, before it saturates (R67). -/
def overUnderOf (remaining sum target : Nat) : Int := (remaining : Int) + sum - target

/-- The values of a CLOSED segment (R65 to R68). -/
def segmentValues (D tod remaining : Nat) (items : List Item) (last : ItemId) (H : Nat) : SegmentValues :=
  let T := targetOf D H tod
  let u := overUnderOf remaining (sumP items) T
  { hardOutItem := last
    hardOut := H
    target := T
    sum := min Config.sumMax (sumP items)
    overUnder := clampInt (-Config.overMax) Config.overMax u
    behind := decide (0 < u)
    requiredEnd := todFrom D tod ((T : Int) - sumP items)
    backTimes := backTimesOf D tod T items }

/-- The computed stage of a countdown, for the thresholds W, Fn and To in frames (R71). -/
def stageOf (W Fn To : Nat) : Option Int → Stage
  | none => .clear
  | some c =>
    if (W : Int) < c then .clear
    else if (Fn : Int) < c then .wrap
    else if 0 < c then .final
    else if -(To : Int) < c then .out
    else .over

/-- The timing result of a state (R60 to R71). -/
def State.computeTiming (s : State) : TimingResult :=
  let a := s.onAirTiming
  let counted := s.counted
  let walk := segmentOf a counted
  let segment : Option SegmentValues :=
    match s.tod, walk with
    | some t, some (l, last, H) => some (segmentValues s.day t a.remaining l last H)
    | _, _ => none
  let status : SegmentStatus :=
    match s.tod, walk with
    | none, _ => .noTime
    | some _, none => .opened
    | some _, some _ => .closed
  let countdown : Option Int :=
    match a.ownCountdown with
    | none => none
    | some c =>
      let c' : Int :=
        match a.bySegment, s.tod, walk with
        | true, some t, some (l, _, H) => (targetOf s.day H t : Int) - sumP l
        | _, _, _ => c
      some (clampInt (-Config.overMax) Config.overMax c')
  { kind := a.kind
    item := a.item
    elapsed := a.elapsed
    remaining := a.remaining
    uncertain := a.uncertain
    held := a.held
    status := status
    segment := segment
    toEnd := min Config.sumMax (a.remaining + sumP counted)
    countdown := countdown
    stage := stageOf (s.values.wrapTime * s.rate) (min s.values.finalTime s.values.wrapTime * s.rate)
      (s.values.overTolerance * s.rate) countdown }

/-- The effective stage: the forced stage while an override is in force, else the computed one (section 4.1). -/
def effectiveStage (ov : Option (ItemId × Stage)) (computed : Stage) : Stage :=
  match ov with
  | some (_, st) => st
  | none => computed

/-- LW is on (R74). -/
def Stage.lw : Stage → Bool
  | .wrap | .over => true
  | _ => false

/-- LF is on (R74). -/
def Stage.lf : Stage → Bool
  | .final => true
  | _ => false

/-- LO is on (R74). -/
def Stage.lo : Stage → Bool
  | .out | .over => true
  | _ => false

/-- The over-alarm condition that a result asks for (R75). -/
def alarmOf (threshold : Nat) (r : TimingResult) : Bool :=
  match r.segment with
  | none => false
  | some v => decide ((threshold : Int) < v.overUnder)

/-- The Timing Computer after a recomputation that gave `r`, on a station with the FLOOR role or without (R73 to R75). -/
def TimingComputer.after (floor : Bool) (threshold : Nat) (r : TimingResult) (t : TimingComputer) : TimingComputer :=
  let st := effectiveStage t.cueOverride r.stage
  { t with
    result := some r
    stage := st
    lw := floor && st.lw
    lf := floor && st.lf
    lo := floor && st.lo
    overAlarm := alarmOf threshold r }

/-- A recomputation (R60): the result is replaced, a change of effective stage posts CUE_STAGE and moves the lamps
(R73, R74), and a clear-to-set change of the over alarm raises its flag (R75). -/
def State.recompute (s : State) : State :=
  let r := s.computeTiming
  let old := s.tmc
  let t := old.after (s.hasRole floorBit) (s.values.overAlarmTime * s.rate) r
  let s := s.setTmc t
  let s := if old.stage = t.stage then s
    else s.post (.cueStage r.item old.stage t.stage r.countdown t.cueOverride.isSome)
  if t.overAlarm && !old.overAlarm then s.raise .overAlarm else s

/-- The effect of a CUE for item `id` with the stage code `b` (R72); a code that names no stage is AUTO. -/
def State.applyCue (id : ItemId) (b : Byte) (s : State) : State :=
  match s.tke.onAir with
  | .none => s
  | a =>
    if a.itemId = id then
      (s.setTmc { s.tmc with cueOverride := (Stage.ofCode b).map (id, ·) }).recompute
    else s

/-- The cue override ends at a take's execution (R72).  The recomputation of the same pulse compares the stages
(R73). -/
def State.endOverride (s : State) : State := s.setTmc { s.tmc with cueOverride := none }

end Sys2Proof.Machine
end

