-- ==== Sys2Proof/Machine/Takes.lean ====
section
/-! DEFINITION. The Take Engine's operations (chapter 2): making, placing and executing takes, standby, clear, hold
and resume, and the control states. -/

namespace Sys2Proof.Machine

/-- The Take Engine with its pending take written. -/
def State.setPendingTake (p : Option PendingTake) (s : State) : State := s.setTke { s.tke with pendingTake := p }

/-! ### Release of the standby item (R8) -/

/-- The release of one element of the standby item (R8). -/
def State.releaseElement (id : ItemId) (x : Element) (s : State) : State :=
  ((s.withdraw id x.id).modElement id x.id fun y => { y with state := .idle, primeFrame := none }).releaseIfPrimed id x

/-- The standby item, if any, released: its entries withdrawn, RELEASE for each PRIMED element, its elements IDLE,
the item WAITING and the slot empty (R8). -/
def State.releaseStandby (s : State) : State :=
  match s.tke.standby with
  | none => s
  | some id =>
    let s := s.eachElement id (State.releaseElement id)
    let s := s.modItem id fun i => { i with state := .waiting }
    s.setTke { s.tke with standby := none }

/-- The release that a delete, drop or float of item `id` requests when it is the STANDBY item (R8). -/
def State.releaseIfStandby (id : ItemId) (s : State) : State :=
  if s.tke.standby = some id then s.releaseStandby else s

/-! ### Making and placing a take (R30 to R37) -/

/-- An own TAKE's queue entry told that its record has been superseded; one whose record is another one is as it was
(R36, log entry 9). -/
def QueueEntry.loseRecord (e : QueueEntry) : QueueEntry := if e.tied then { e with superseded := true } else e

/-- The own TAKE whose record was the pending take told that it has been superseded (R36, log entry 9); a TAKE that has
left the air queue needs no telling. -/
def State.markSuperseded (old : PendingTake) (s : State) : State :=
  if old.made then s.setObq { s.obq with air := s.obq.air.map QueueEntry.loseRecord } else s

/-- A new record becomes the pending take when it is placed against the one held (R36). -/
def State.takesPlace (p : PendingTake) (s : State) : Bool :=
  match s.tke.pendingTake with
  | none => true
  | some old => old.item != p.item || Count.before p.air old.air

/-- The entry at the tail tied to the record just placed, and no other (log entry 9). -/
def tieTail : List QueueEntry → List QueueEntry
  | [] => []
  | [e] => [{ e with tied := true }]
  | e :: l => { e with tied := false } :: tieTail l

/-- The air queue after the record of the TAKE at its tail has become the pending take (log entry 9). -/
def State.tieTake (s : State) : State := s.setObq { s.obq with air := tieTail s.obq.air }

/-- A new pending-take record placed against the one held (R36).  A record for another item supersedes the one held also
when it comes from a hand-off at the pulse of that one's air frame: R36 says that the old item then does not go to air, where
R57 says of the same order that the pending take "then executes at once" (DESIGN CHOICE, unsafe; log entry 46). -/
def State.placeTake (p : PendingTake) (s : State) : State :=
  match s.tke.pendingTake with
  | none => s.setPendingTake (some p)
  | some old =>
    if old.item = p.item then
      if Count.before p.air old.air then s.setPendingTake (some p) else s
    else
      ((s.markSuperseded old).setPendingTake (some p)).post
        (.takeSuperseded old.item old.air p.item p.air p.sender .superseded)

/-- The pending take discarded (R37). -/
def State.discardTake (cause : SupersedeCause) (s : State) : State :=
  match s.tke.pendingTake with
  | none => s
  | some p => (s.setPendingTake none).post (.takeSuperseded p.item p.air 0 0 0 cause)

/-- The air frame of a take made now with lead `L` (R33). -/
def State.airFrame (s : State) (L : Nat) : Count := s.now + BitVec.ofNat 32 (max L 1)

/-- The carried duration of a take made here (R33): the SEND's value, else the item's P, else 0. -/
def State.carriedFor (s : State) (item : ItemId) (given : Option Nat) : Nat :=
  match given with
  | some d => d
  | none =>
    match s.findItem item with
    | some i => i.duration
    | none => 0

/-- A take that proceeds (R33): the TAKE submitted and, when it is admitted, its record placed.  The second answer is
the frame's sequence number, absent when the air queue refused it. -/
def State.makeTake (item : ItemId) (t : TakeTerms) (s : State) : State × Option Byte :=
  let A := s.airFrame t.lead
  let d := s.carriedFor item t.carried
  let r := s.submit (.take item d A) t.address .takeEngine
  match r.2 with
  | .admitted q =>
    let q := q.getD 0
    let p : PendingTake := { item := item, air := A, arrival := s.now, sender := s.pcu.ownNumber, sequence := q,
                             carried := d, late := false, made := true }
    let t := r.1.placeTake p
    (if r.1.takesPlace p then t.tieTake else t, some q)
  | _ => (r.1, none)

/-- How a take request that passed R30 went on. -/
inductive TakeStart where
  /-- The air queue refused its SWEEP or its TAKE. -/
  | queueFull
  /-- Its sweep has begun (R31). -/
  | sweeping
  /-- Its TAKE stands in the air queue with this sequence number (R33). -/
  | made (sequence : Byte)
deriving DecidableEq, Repr

/-- A take request whose item is fixed: guarded by R31 or made by R33. -/
def State.startTake (item : ItemId) (o : Origin) (forced : Bool) (t : TakeTerms) (s : State) : State × TakeStart :=
  if s.values.guard && !forced then
    let r := s.submit (.sweep item) toAll .peerCensus
    if r.2.isAdmitted then
      (r.1.setTke { r.1.tke with
        guarded := some { item := item, wasOwn := (s.findItem item).isSome, origin := o, terms := t, lapsed := false } }, .sweeping)
    else (r.1, .queueFull)
  else
    let r := s.makeTake item t
    match r.2 with
    | some q => (r.1, .made q)
    | none => (r.1, .queueFull)

/-- The terms of a take from an input or TAKE NEXT (R33). -/
def State.ownTerms (s : State) : TakeTerms := { address := toAll, lead := s.values.takeLead, carried := none }

/-- A recognised TAKE or FORCE input (R30, R57). -/
def State.inputTake (forced : Bool) (s : State) : State :=
  if !s.isActive then s.ignoreTake .notActive 0
  else if s.suppresses then s.ignoreTake .localControl 0
  else if s.tke.guarded.isSome then s.ignoreTake .sweeping 0
  else
    match s.nextItem with
    | none => s.ignoreTake .noNext 0
    | some i =>
      let r := s.startTake i .takeInput forced s.ownTerms
      if r.2 = .queueFull then r.1.ignoreTake .queueFull i else r.1

/-- The guard mask meets the known roles of a peer in the not-ready set (R32 check 5). -/
def State.guardRefuses (s : State) (notReady : StationSet) : Bool :=
  (members notReady).any fun k =>
    match (s.pcu.peer k).bind (·.roles) with
    | some r => (r &&& s.values.guardRoles) != 0
    | none => false

/-- The guarded take decided from a sweep result (R32).  "No longer ACTIVE" is a station that is not ACTIVE now, or that
has not been ACTIVE throughout: R145 has the guarded take of a station that lost its number refused when its sweep ends, which
comes only after the next number is won (DEDUCED, unsafe; log entry 41). -/
def State.guardDecide (r : SweepResult) (s : State) : State :=
  match s.tke.guarded with
  | none => s
  | some g =>
    let s := s.setTke { s.tke with guarded := none }
    if r.item ≠ g.item then (s.post (.guardRefused g.item true 0)).raise .guardRefused
    else if !s.isActive || g.lapsed then s.ignoreTake .notActive g.item
    else if g.origin = .takeInput ∧ s.suppresses then s.ignoreTake .localControl g.item
    else if g.wasOwn && (s.findItem g.item).isNone then s.ignoreTake .itemGone g.item
    else if s.guardRefuses r.notReady then (s.post (.guardRefused g.item false r.notReady)).raise .guardRefused
    else
      let m := s.makeTake g.item g.terms
      match m.2 with
      | some _ => m.1
      | none => m.1.ignoreTake .queueFull g.item

/-- A received TAKE's record formed and placed (R35): `c` is the count at the pulse that began the period of its
start bit. -/
def State.receiveTake (w : Wire) (c : Count) (s : State) : State :=
  let A := c + (byteAt w.body 3).zeroExtend 32
  let late := (byteAt w.body 4).getLsbD 0 || Count.atOrBefore A s.now
  s.placeTake { item := w.item, air := if late then s.nextFrame else A, arrival := s.now, sender := w.sender.toNat,
                sequence := w.sequence, carried := (field24 w.body 5).toNat, late := late, made := false }

/-- This station's own TAKE, superseded before its first attempt was sent, placed again (R36).  Its sender is the number
held now, "as though received", also when that has changed since R33 formed "that record" (DESIGN CHOICE, unsafe; log entry
45). -/
def State.replaceOwnTake (item : ItemId) (carried : Nat) (A : Count) (sequence : Byte) (s : State) : State :=
  let late := Count.atOrBefore A s.now
  s.placeTake { item := item, air := if late then s.nextFrame else A, arrival := s.now, sender := s.pcu.ownNumber,
                sequence := sequence, carried := carried, late := late, made := false }

/-! ### Executing a take (R38 to R40, R88) -/

/-- The actual duration of an item that leaves the air (R2, R38); past 2^31 − 1 frames a free value (log entry 6). -/
def actualDuration (S air : Count) : Nat :=
  if Count.diff S air < 0 then (Config.actualBeyond air S).toNat else (Count.diff S air).toNat

/-- An element that has not fired (R38). -/
def State.unfired (s : State) (id : ItemId) (x : Element) : Bool :=
  match x.state with
  | .scheduled | .primed | .held => true
  | .suppressed => (s.goEntry id x.id).isSome
  | _ => false

/-- The take-off behaviour of one element of the outgoing item (R38). -/
def State.takeOffElement (id : ItemId) (x : Element) (s : State) : State :=
  if s.unfired id x then
    match x.takeOff with
    | .cancel => ((s.withdraw id x.id).modElement id x.id Element.skip).releaseIfPrimed id x
    | .force => (s.withdraw id x.id).fireGo id x.id
  else s

/-- The outgoing item's record as a take of another item at `air` leaves it (R2, R38). -/
def Item.goOff (air : Count) (i : Item) : Item :=
  { i with state := .aired, held := false, actual := i.airStart.map fun S => actualDuration S air }

/-- The first part of an execution (R38): the outgoing own item, when it is another one. -/
def State.takeOutgoing (p : PendingTake) (s : State) : State :=
  match s.tke.onAir with
  | .own o =>
    if o = p.item then s else (s.modItem o (Item.goOff p.air)).eachElement o (State.takeOffElement o)
  | _ => s

/-- The incoming item's record as the take leaves it (R39).  The actual duration becomes absent whatever state the item was
taken from, where R2 and R39 say so of an AIRED one alone (DEDUCED, unsafe; log entry 31). -/
def Item.goOn (p : PendingTake) (i : Item) : Item :=
  { i with state := .onAir, airStart := some p.air, actual := none, lateMark := p.late, lateFrames := 0,
           held := false }

/-- The second part of an execution for an item X of the run list (R39, R88). -/
def State.takeOwn (p : PendingTake) (x : Item) (s : State) : State :=
  let retake := x.state == .onAir
  let s := if retake then s.eachElement p.item (State.withdrawElement p.item) else s
  let s := s.modItem p.item (Item.goOn p)
  let s := s.setTke { s.tke with
    onAir := .own p.item
    lastAired := some p.item
    standby := if s.tke.standby = some p.item then none else s.tke.standby }
  s.placeEach p.item (State.scheduleElement p.item p.air p.arrival x.duration retake)

/-- The second part of an execution (R39): the incoming item goes on the air, own or foreign. -/
def State.takeIncoming (p : PendingTake) (s : State) : State :=
  match s.findItem p.item with
  | some x => s.takeOwn p x
  | none => s.setTke { s.tke with onAir := .foreign p.item p.carried p.air }

/-- The outgoing item's ID in TAKE_DONE, 0 when there is none (R38, R39). -/
def State.outgoingId (s : State) (p : PendingTake) : ItemId :=
  match s.tke.onAir with
  | .own o => if o = p.item then 0 else o
  | _ => 0

/-- The TAKE_DONE event and the late-take flag (R39). -/
def State.takeDone (p : PendingTake) (outgoing : ItemId) (s : State) : State :=
  let late := match s.findItem p.item with | some i => i.lateFrames | none => 0
  let s := s.post (.takeDone p.item (s.findItem p.item).isSome p.air p.late late outgoing)
  if p.late then s.raise .lateTake else s

/-- The overflow latch cleared, as every executing take does before its elements are scheduled (R82). -/
def State.clearLatch (s : State) : State := s.setFsc { s.fsc with latch := false }

/-- The execution of a pending take (R38, R39). -/
def State.executeTake (p : PendingTake) (s : State) : State :=
  let outgoing := s.outgoingId p
  (((((s.setPendingTake none).clearLatch.takeOutgoing p).takeIncoming p).endOverride).takeDone p outgoing)

/-- The pending take whose air frame is now, if any (R38). -/
def State.takeDue (s : State) : Option PendingTake :=
  match s.tke.pendingTake with
  | some p => if p.air = s.now then some p else none
  | none => none

/-- The take execution of a frame pulse (R38). -/
def State.runTake (s : State) : State :=
  match s.takeDue with
  | some p => s.executeTake p
  | none => s

/-! ### Standby, clear, hold and resume (R41 to R45) -/

/-- An item becomes STANDBY (R41, R87): every element IDLE, each primable one primed, the slot filled. -/
def State.setStandby (id : ItemId) (s : State) : State :=
  let s := s.modItem id fun i => { i with state := .standby, elements := i.elements.map Element.reset }
  let s := s.setTke { s.tke with standby := some id }
  s.eachElement id (State.primeElement id)

/-- The effect of a STANDBY for an item from a sender (R41).  A FIRE_OVERFLOW ATTENTION of its priming is submitted before
its NOT_READY (DESIGN CHOICE, unsafe: R129 gives the two no order; log entry 39). -/
def State.applyStandby (id : ItemId) (sender : Nat) (s : State) : State :=
  match s.findItem id with
  | none =>
    let t := s.releaseStandby.post (.standbySet id sender .notHeld)
    if s.tke.standby.isSome then t.recompute else t
  | some i =>
    match i.state with
    | .standby => s.post (.standbySet id sender .unchanged)
    | .onAir => s.post (.standbySet id sender .onAir)
    | _ =>
      let t := (s.releaseStandby.setStandby id).post (.standbySet id sender .set)
      (if i.notReady then t.autoAttention .notReady id else t).recompute

/-- A HELD element skipped by a CLEAR (R43 step 5). -/
def Element.skipHeld (x : Element) : Element := if x.state = .held then x.skip else x

/-- Steps 4 and 5 of a CLEAR on the own on-air item (R43). -/
def State.clearOnAir (s : State) : State :=
  match s.tke.onAir with
  | .own id =>
    (s.eachElement id (State.clearElement id)).modItem id fun i =>
      if i.held then { i with held := false, elements := i.elements.map Element.skipHeld } else i
  | _ => s

/-- Step 1 of a CLEAR: the guarded take abandoned (R43). -/
def State.abandonGuarded (s : State) : State :=
  match s.tke.guarded with
  | none => s
  | some g => (s.setTke { s.tke with guarded := none }).ignoreTake .cleared g.item

/-- The effect of a CLEAR (R43), with the recomputation that follows it (R60). -/
def State.applyClear (s : State) : State :=
  ((((s.abandonGuarded.discardTake .clear).releaseStandby).clearOnAir).mapLines FireLine.dropHold).recompute

/-- Item X is the own ON_AIR item (R44, R45). -/
def State.ownOnAir (s : State) (id : ItemId) : Option Item :=
  match s.tke.onAir with
  | .own o => if o = id then s.findItem id else none
  | _ => none

/-- The effect of a HOLD for an item (R44). -/
def State.applyHold (id : ItemId) (s : State) : State :=
  match s.ownOnAir id with
  | none => s
  | some i =>
    if i.held then s
    else ((s.modItem id fun i => { i with held := true }).eachElement id (State.holdElement id)).recompute

/-- The effect of a RESUME for an item (R45). -/
def State.applyResume (id : ItemId) (s : State) : State :=
  match s.ownOnAir id with
  | none => s
  | some i =>
    if i.held then
      ((s.modItem id fun i => { i with held := false }).placeEach id (State.resumeElement id)).recompute
    else s

/-! ### Control states (R46, R47) -/

/-- A change of control state, with its event and its ANNOUNCE (R46). -/
def State.changeControl (new : Control) (cause : ControlCause) (sender : Nat) (s : State) : State :=
  let old := s.tke.control
  ((s.setTke { s.tke with control := new }).post (.controlChange old new cause sender)).announce

/-- A local request (R46); under lockout it is refused (R47). -/
def State.localRequest (cause : ControlCause) (s : State) : State :=
  match s.tke.control with
  | .remote => s.changeControl .localControl cause 0
  | .remoteLocked => s.post (.controlChange .remoteLocked .remoteLocked .refusedLocked 0)
  | _ => s

/-- A local release (R46). -/
def State.localRelease (cause : ControlCause) (s : State) : State :=
  match s.tke.control with
  | .localControl => s.changeControl .remote cause 0
  | .localLocked => s.changeControl .remoteLocked cause 0
  | _ => s

/-- An accepted LOCKOUT (R46). -/
def State.applyLockout (sender : Nat) (s : State) : State :=
  match s.tke.control with
  | .remote => s.changeControl .remoteLocked .lockout sender
  | .localControl => s.changeControl .localLocked .lockout sender
  | _ => s

/-- An accepted RELEASE (R46). -/
def State.applyRelease (sender : Nat) (s : State) : State :=
  match s.tke.control with
  | .remoteLocked => s.changeControl .remote .release sender
  | .localLocked => s.changeControl .localControl .release sender
  | _ => s

end Sys2Proof.Machine
end

