-- ==== Sys2Proof/Machine/Edits.lean ====
section
/-! DEFINITION. The Run List Store's operations that requests and frames share (chapter 1): removal, FLOAT, RESTORE and
STRETCH, and the EDIT_HEARD of a line edit. -/

namespace Sys2Proof.Machine

/-- The run list written. -/
def State.setItems (l : List Item) (s : State) : State := s.setRls ⟨l⟩

/-- The steps that take an item out of the list (R14, R20): release, discard of a pending take for it, the last-aired
position moved off it, the item and its elements removed. -/
def State.removeItem (id : ItemId) (cause : SupersedeCause) (s : State) : State :=
  let s := s.releaseIfStandby id
  let s := if s.tke.pendingTake.any (·.item == id) then s.discardTake cause else s
  let s := if s.tke.lastAired = some id then s.setTke { s.tke with lastAired := itemBefore id s.rls.items } else s
  s.setItems (s.rls.items.filter (·.id != id))

/-- FLOAT on an item that is in the list and not ON_AIR (R18, R21); the second answer is whether its state changed. -/
def State.floatItem (i : Item) (s : State) : State × Bool :=
  match i.state with
  | .waiting => (s.modItem i.id fun x => { x with state := .floated }, true)
  | .standby => (s.releaseStandby.modItem i.id fun x => { x with state := .floated }, true)
  | _ => (s, false)

/-- RESTORE on an item that is in the list (R18, R21); the second answer is whether its state changed. -/
def State.restoreItem (i : Item) (s : State) : State × Bool :=
  match i.state with
  | .floated => (s.modItem i.id fun x => { x with state := .waiting }, true)
  | _ => (s, false)

/-- A duration stretched by a delta and clamped (R22). -/
def stretched (d : Nat) (delta : Int) : Nat := (clampInt 0 Config.maxDuration ((d : Int) + delta)).toNat

/-- The pending take's carried duration stretched, when it is for the item (R22). -/
def State.stretchPending (id : ItemId) (delta : Int) (s : State) : State :=
  match s.tke.pendingTake with
  | some p => if p.item = id then s.setPendingTake (some { p with carried := stretched p.carried delta }) else s
  | none => s

/-- The planned duration of an item written; a change on the ON_AIR item reschedules its END elements (R9, R12, R22). -/
def State.setDuration (i : Item) (d : Nat) (s : State) : State :=
  let s := s.modItem i.id fun x => { x with duration := d }
  if i.state = .onAir ∧ d ≠ i.duration then s.reschedule { i with duration := d } else s

/-- APPLIED when a duration changed, NO_CHANGE otherwise (R22). -/
def changedOutcome (changed : Bool) : EditOutcome := if changed then .applied else .noChange

/-- Places 2 to 4 of a STRETCH (R22). -/
def State.stretchListed (id : ItemId) (delta : Int) (s : State) : State × EditOutcome :=
  match s.findItem id with
  | some i =>
    let d := stretched i.duration delta
    if d = i.duration then (s, .noChange) else (s.setDuration i d, .applied)
  | none =>
    match s.tke.pendingTake with
    | some p =>
      if p.item = id then
        (s.stretchPending id delta, changedOutcome (stretched p.carried delta != p.carried))
      else (s, .noSuchItem)
    | none => (s, .noSuchItem)

/-- The effect of a STRETCH (R22), and its outcome. -/
def State.stretch (id : ItemId) (delta : Int) (s : State) : State × EditOutcome :=
  match s.tke.onAir with
  | .foreign o d S =>
    if o = id then
      let t := (s.setTke { s.tke with onAir := .foreign o (stretched d delta) S }).stretchPending id delta
      (t, changedOutcome (t.tke != s.tke))
    else s.stretchListed id delta
  | _ => s.stretchListed id delta

/-- The four edits that a frame carries (R19). -/
inductive LineEdit where
  | drop | float | restore | stretch (delta : Int)
deriving DecidableEq, Repr

/-- The frame kind of a line edit. -/
def LineEdit.kind : LineEdit → Kind
  | .drop => .drop
  | .float => .float
  | .restore => .restore
  | .stretch _ => .stretch

/-- The delta that EDIT_HEARD reports (R19). -/
def LineEdit.delta : LineEdit → Int
  | .stretch d => d
  | _ => 0

/-- What a line edit does to the run list, with its outcome (R20 to R22). -/
def State.editEffect (e : LineEdit) (id : ItemId) (s : State) : State × EditOutcome :=
  match e with
  | .stretch d => s.stretch id d
  | .drop =>
    match s.findItem id with
    | none => (s, .noSuchItem)
    | some i => if i.state = .onAir then (s, .refusedOnAir) else (s.removeItem id .dropped, .applied)
  | .float =>
    match s.findItem id with
    | none => (s, .noSuchItem)
    | some i =>
      if i.state = .onAir then (s, .refusedOnAir)
      else let r := s.floatItem i; (r.1, changedOutcome r.2)
  | .restore =>
    match s.findItem id with
    | none => (s, .noSuchItem)
    | some i => let r := s.restoreItem i; (r.1, changedOutcome r.2)

/-- A line edit applied (R19): its effect, EDIT_HEARD, and the recomputation of an edit that changed something
(R60). -/
def State.applyEdit (e : LineEdit) (sender : Nat) (id : ItemId) (s : State) : State :=
  let r := s.editEffect e id
  let t := r.1.post (.editHeard e.kind sender id e.delta r.2)
  if r.2 = .applied then t.recompute else t

end Sys2Proof.Machine
end

