-- ==== Sys2Proof/Machine/Port.lean ====
section
/-! DEFINITION. The framing of the equipment port (R168, R169, R190): how every request is taken and answered, the
read transfer and the refused frame. -/

namespace Sys2Proof.Machine

/-- What an owning block gives a request that completes (R169): the state it leaves, the result and, for DONE, the
result fields. -/
structure Reply where
  state : State
  result : Result
  fields : List Byte

/-- A request refused with a result: it leaves the state as it was (R10, R169). -/
def State.refuse (s : State) (r : Result) : Reply := ⟨s, r, []⟩

/-- A request completed DONE. -/
def State.done (s : State) (fields : List Byte) : Reply := ⟨s, .done, fields⟩

/-- A request frame that begins while the port is WORKING or RESPONDING: discarded, the overrun count up by one
(R168). -/
def State.overrun (s : State) : State :=
  s.setEqp { s.eqp with overruns := min Config.byteMax (s.eqp.overruns + 1) }

/-- The port takes a request frame (R168): not in STARTING, where it is discarded uncounted. -/
inductive PortTaking where
  | discarded | overrun | taken
deriving DecidableEq, Repr

/-- What becomes of a request frame that begins now (R168). -/
def State.portTaking (s : State) : PortTaking :=
  if !s.running then .discarded
  else match s.eqp.port with
    | .starting => .discarded
    | .working | .responding => .overrun
    | .idle | .receiving => .taken

/-- A request of code `code` taken and, in the same step, completed by `f` (R168, R169): the response is offered,
with its fields only for DONE. -/
def State.request (code : Byte) (f : State → Reply) (s : State) : State :=
  match s.portTaking with
  | .discarded => s
  | .overrun => s.overrun
  | .taken =>
    let r := f s
    r.state.setEqp (r.state.eqp.offer code r.result (if r.result = .done then r.fields else []))

/-- The bytes that a read transfer could return in all (R190). -/
def EquipmentPort.readable (e : EquipmentPort) : List Byte :=
  e.port.code :: (if e.port = .responding then e.response.getD [] else [])

/-- A read transfer of `count` bytes after the 0x00 (R190): it returns that many bytes of what can be read, and one
that reaches the last byte of the response ends the response (R168).  One that is longer than what can be read returns no
further bytes: R190 does not say what the part would drive then (DESIGN CHOICE, unsafe; log entry 49). -/
def EquipmentPort.read (count : Nat) (e : EquipmentPort) : EquipmentPort :=
  let out := e.readable.take count
  if e.port = .responding ∧ e.readable.length ≤ count then
    { e with portOut := out, response := none, port := .idle }
  else { e with portOut := out }

end Sys2Proof.Machine
end

