-- ==== Sys2Proof/Machine/Restart.lean ====
section
/-! DEFINITION. The Start-up Loader (chapter 11): the beginning of a restart, the configuration image, the end of a
restart, and the commands POWER_ON, RESET_ACTIVE, RESTART_END, READ_RESTART and RESTART_REQUEST. -/

namespace Sys2Proof.Machine

/-! ### The beginning of a restart (R180, R181) -/

/-- The kind of a new restart (R180): cold when it or the restart it abandons is cold. -/
def combinedKind : Phase → StartKind → StartKind
  | .restarting .cold, _ => .cold
  | _, k => k

/-- An element after a warm restart (R24). -/
def Element.warm (e : Element) : Element :=
  { e with state := .idle, primeFrame := none, remainder := none, late := 0 }

/-- An item after a warm restart (R24). -/
def Item.warm (i : Item) : Item :=
  { i with
    state := match i.state with
      | .onAir => .aired
      | .standby => .waiting
      | st => st
    actual := if i.state = .onAir then none else i.actual
    lateMark := false
    lateFrames := 0
    held := false
    elements := i.elements.map Element.warm }

/-- The run list at the beginning of a restart (R24). -/
def RunList.restarted (k : StartKind) (l : RunList) : RunList :=
  match k with
  | .cold => ⟨[]⟩
  | .warm => ⟨l.items.map Item.warm⟩

/-- The last-aired position after a restart (R49). -/
def TakeEngine.lastAiredAfter (k : StartKind) (t : TakeEngine) : Option ItemId :=
  match k with
  | .cold => none
  | .warm =>
    match t.onAir with
    | .own i => some i
    | _ => t.lastAired

/-- The Take Engine at the beginning of a restart (R49). -/
def TakeEngine.restarted (k : StartKind) (t : TakeEngine) : TakeEngine :=
  { TakeEngine.fresh with lastAired := t.lastAiredAfter k }

/-- The previous number after a restart (R155). -/
def PeerCensus.previousAfter (k : StartKind) (p : PeerCensus) : Nat :=
  match k with
  | .cold => 0
  | .warm => if p.ownNumber = 0 then p.previous else p.ownNumber

/-- A restart begins (R180, R181): every block enters its restart state. -/
def State.beginRestart (cause : Cause) (kind : StartKind) (reset : Bool) (s : State) : State :=
  let k := combinedKind s.sul.phase kind
  { rls := s.rls.restarted k
    tke := s.tke.restarted k
    fck := FrameClock.fresh s.values.inputEnables
    tmc := TimingComputer.fresh
    fsc := FireScheduler.fresh
    lne := LineEngine.fresh
    pcu := PeerCensus.fresh s.pcu.identity (s.pcu.previousAfter k)
    obq := OutboundQueues.fresh
    eqp := EquipmentPort.fresh s.values.groupEnables
    sul := { s.sul with phase := .restarting k, cause := cause, resetInput := reset }
    pulseRest := []
    pending := s.pending }

/-! ### The configuration image (R182 to R184, R192) -/

/-- Byte `i` of an image as a number. -/
def imageByte (image : List Byte) (i : Nat) : Nat := (byteAt image i).toNat

/-- A value clamped to its range (R183). -/
def clampNat (lo hi v : Nat) : Nat := max lo (min hi v)

/-- The configuration values of an image that passes its check, each field clamped by R183. -/
def imageValues (b : List Byte) : Config.Values where
  preferred := clampNat 0 30 (imageByte b 0)
  roles := byteAt b 1
  lineRate := clampNat 0 3 (imageByte b 2)
  frameRate := clampNat 0 4 (imageByte b 3)
  takeLead := clampNat 0 15 (imageByte b 4)
  retryLimit := clampNat 0 7 (imageByte b 5)
  absentLimit := clampNat 1 15 (imageByte b 6)
  guard := (byteAt b 7).getLsbD 0
  guardRoles := byteAt b 8
  ring := byteAt b 9
  upper := clampNat 1 16 (imageByte b 10)
  lower := clampNat 0 15 (imageByte b 11)
  wrapTime := imageByte b 12
  finalTime := imageByte b 13
  overTolerance := imageByte b 14
  overAlarmTime := imageByte b 15
  pollTimeout := clampNat 1 255 (imageByte b 16)
  lineModes := byteAt b 17
  inputEnables := (byteAt b 18).setWidth 3
  groupEnables := (byteAt b 19).setWidth 5

/-- The number fields that R183 clamps, each with its byte and its range. -/
def clampRanges : List (Nat × Nat × Nat) :=
  [(0, 0, 30), (2, 0, 3), (3, 0, 4), (4, 0, 15), (5, 0, 7), (6, 1, 15), (10, 1, 16), (11, 0, 15), (16, 1, 255)]

/-- The bit of byte `i` in a clamped-field set (R192). -/
def clampedBit (i : Nat) : BitVec 24 := 1 <<< i

/-- The fields that R183 clamped, as a set (R183, R192). -/
def clampedFields (b : List Byte) : BitVec 24 :=
  clampRanges.foldl (fun t r =>
    if clampNat r.2.1 r.2.2 (imageByte b r.1) = imageByte b r.1 then t else t ||| clampedBit r.1) 0

/-- The check of the two routine thresholds together (R184). -/
def checkThresholds (v : Config.Values) (set : BitVec 24) : Config.Values × BitVec 24 :=
  if v.upper ≤ v.lower then
    ({ v with upper := Config.defaults.upper, lower := Config.defaults.lower },
     set ||| clampedBit 10 ||| clampedBit 11)
  else (v, set)

/-- What one read of the serial memory gives (R182). -/
structure ImageRead where
  outcome : ImageOutcome
  clamped : BitVec 24
  values : Config.Values
  startMode : Mode
deriving DecidableEq, Repr

/-- The image read and judged (R182): the first 32 bytes that the memory answers with, or fewer. -/
def readImage (answer : List Byte) : ImageRead :=
  let b := answer.take 32
  if b.length < 32 then ⟨.noMemory, 0, Config.defaults, .claiming⟩
  else if b.all (· == 0xFF) then ⟨.erased, 0, Config.defaults, .claiming⟩
  else if crc (bytesBits (b.take 30)) ≠ field16 b 30 then ⟨.bad, 0, Config.defaults, .listenOnly⟩
  else
    let r := checkThresholds (imageValues b) (clampedFields b)
    ⟨if r.2 = 0 then .ok else .clamped, r.2, r.1, .claiming⟩

/-- The twenty bytes of the configuration values, in the image's order (R192). -/
def valueBytes (v : Config.Values) : List Byte :=
  be 1 v.preferred ++ [v.roles] ++ be 1 v.lineRate ++ be 1 v.frameRate ++ be 1 v.takeLead ++ be 1 v.retryLimit ++
    be 1 v.absentLimit ++ beBool v.guard ++ [v.guardRoles, v.ring] ++ be 1 v.upper ++ be 1 v.lower ++
    be 1 v.wrapTime ++ be 1 v.finalTime ++ be 1 v.overTolerance ++ be 1 v.overAlarmTime ++ be 1 v.pollTimeout ++
    [v.lineModes, v.inputEnables.setWidth 8, v.groupEnables.setWidth 8]

/-- The fields of READ RESTART (R187, R192). -/
def RestartRecord.bytes (r : RestartRecord) : List Byte :=
  [r.cause.code, r.kind.code, r.outcome.code, r.startMode.code] ++ be 3 r.clamped.toNat ++ valueBytes r.values

/-! ### The end of a restart (R185, R186) -/

/-- A kept hard out rewritten for a new frame rate (R24). -/
def rescaleHardOut (oldF newF : Nat) (H : Nat) : Nat := if oldF = newF then H else H * newF / oldF

/-- The starting candidate (R140). -/
def startCandidate (k : StartKind) (previous preferred : Nat) : Nat :=
  let cold := if preferred = 0 then 1 else preferred
  match k with
  | .cold => cold
  | .warm => if 1 ≤ previous ∧ previous ≤ 30 then previous else cold

/-- The kind of the restart in progress. -/
def Phase.kind? : Phase → Option StartKind
  | .running => none
  | .restarting k => some k

/-- The values handed on and the restart record written (R185, R186 step 1, R187), with the phase RUNNING (step 5):
nothing between these steps and that one reads the phase. -/
def State.handOn (k : StartKind) (r : ImageRead) (s : State) : State :=
  let old := s.rate
  let s := s.setSul { phase := .running, cause := s.sul.cause, values := r.values, resetInput := false,
                      record := { cause := s.sul.cause, kind := k, outcome := r.outcome, startMode := r.startMode,
                                  clamped := r.clamped, values := r.values } }
  s.setRls ⟨s.rls.items.map fun i => { i with hardOut := i.hardOut.map (rescaleHardOut old s.rate) }⟩

/-- Steps 2 and 3 of the end (R186): the Frame Clock's state with the inputs in use, the port IDLE with the group
enables in use, and no-time raised. -/
def State.openPort (s : State) : State :=
  ((s.setFck (FrameClock.fresh s.values.inputEnables)).setEqp
    { EquipmentPort.fresh s.values.groupEnables with port := .idle }).raise .noTime

/-- Step 4 of the end (R186): the start mode. -/
def State.enterMode (k : StartKind) (m : Mode) (s : State) : State :=
  match m with
  | .listenOnly => s.setPcu { s.pcu with ownNumber := 0, mode := .listenOnly, candidate := none, claimWaiting := false }
  | _ => s.beginClaim (startCandidate k s.pcu.previous s.values.preferred)

/-- The restart ends with what the memory answered (R186). -/
def State.endRestart (answer : List Byte) (s : State) : State :=
  match s.sul.phase with
  | .running => s
  | .restarting k =>
    let r := readImage answer
    ((s.handOn k r).openPort).enterMode k r.startMode

/-! ### The commands -/

/-- POWER_ON (R180, R181): the cold restart of cause POWER begins.  Nothing but the identity outlives the want of
power, so the values in use are the defaults until the image has been read (log entry 7). -/
def execPowerOn (resetHeld : Bool) (s : State) : Host.Outcome State Fault Refusal :=
  .next { State.reset with
    pcu := PeerCensus.fresh s.pcu.identity 0
    sul := { State.reset.sul with resetInput := resetHeld }
    pending := s.pending }

/-- RESET_ACTIVE (R180): a warm restart of cause PIN, cold when it interrupts a cold one. -/
def execResetActive (s : State) : Host.Outcome State Fault Refusal :=
  .next (s.beginRestart .pin .warm true)

/-- RESTART_END (R182, R186): RESET is inactive, the image is read once and the restart ends; while RUNNING there is
no restart to end. -/
def execRestartEnd (image : List Byte) (s : State) : Host.Outcome State Fault Refusal :=
  .next (s.endRestart image)

/-- READ RESTART (R171, R187). -/
def execReadRestart (s : State) : Host.Outcome State Fault Refusal :=
  .next (s.request 0x1B fun t => t.done t.sul.record.bytes)

/-- RESTART (R171): COLD or WARM begins that restart with no response; any other value is refused. -/
def execRestartRequest (kind : Byte) (s : State) : Host.Outcome State Fault Refusal :=
  .next (
    if s.portTaking = .taken ∧ kind = 0 then s.beginRestart .requestCold .cold s.sul.resetInput
    else if s.portTaking = .taken ∧ kind = 1 then s.beginRestart .requestWarm .warm s.sul.resetInput
    else s.request 0x1C fun t => t.refuse .badField)

end Sys2Proof.Machine
end

