-- ==== Sys2Proof/Machine/Pulse.lean ====
section
/-! DEFINITION. The Frame Clock (chapter 3) and the parts of a frame pulse: the count, the inputs, the order of the
parts, and the commands that a pulse brings (log entries 3 and 10). -/

namespace Sys2Proof.Machine

/-! ### The count and the inputs (R50, R52, R56, R57) -/

/-- The offset after a pulse (R52): corrected by 2^32 mod D at the wrap of the count. -/
def wrapOffset (D : Nat) (count : Count) (offset : Option Nat) : Option Nat :=
  if count + 1 = 0 then offset.map fun o => (o + 2 ^ 32 % D) % D else offset

/-- The level that a sample stands for. -/
def levelOf (sample : Bool) : Level := if sample then .active else .inactive

/-- One sample of an operator input (R56): the filter after it, and the level to which a transition is recognised. -/
def InputFilter.sample (enabled sample : Bool) (f : InputFilter) : InputFilter × Option Level :=
  if !enabled then (f, none)
  else if f.previous = some sample then
    if f.level = levelOf sample then ({ f with previous := some sample }, none)
    else
      ({ previous := some sample, level := levelOf sample },
        if f.level = .unsettled then none else some (levelOf sample))
  else ({ f with previous := some sample }, none)

/-- The take request that a pulse hands on (R57): FORCE alone when both are recognised. -/
def takeHandOff (take force : Option Level) : List HandOff :=
  if force = some .active then [.force] else if take = some .active then [.take] else []

/-- The local request or release that a pulse hands on (R57). -/
def localHandOff (l : Option Level) : List HandOff :=
  match l with
  | some .active => [.localOn]
  | some .inactive => [.localOff]
  | _ => []

/-- The parts of a pulse that follow the Frame Clock's own steps, in the order that the world gives (R50, R57, R60,
R89, R97, R98).  The transitions that one pulse recognises are handed on together, at one place (DESIGN CHOICE, unsafe:
R57 does not say that the take execution or the pass cannot fall between two of them; log entry 33). -/
def pulseParts (place : HandOffPlace) (hs : List HandOff) : List PulsePart :=
  let h := hs.map PulsePart.handOff
  let at' (p : HandOffPlace) : List PulsePart := if place = p then h else []
  [.timeApplied] ++ at' .first ++ [.pulseEnds, .holdEnds, .take] ++ at' .afterTake ++
    (match place with | .amid n => .entries n :: h | _ => []) ++ [.pass] ++ at' .afterPass ++
    [.pollTimeout, .claimResubmit, .recompute]

/-! ### The Frame Clock's own steps, which no command divides (R50) -/

/-- Steps 1 and 2 of R50: the count, and the correction of the offset at its wrap (R52). -/
def State.advanceCount (s : State) : State :=
  s.setFck { s.fck with count := s.fck.count + 1, offset := wrapOffset s.day s.fck.count s.fck.offset }

/-- Step 3 of R50: a pending time setting is applied at this pulse (R53): the offset, and no-time.  The request completes at
the Equipment Port, to which the pulse is passed on after step 4. -/
def State.applyTime (s : State) : State :=
  match s.fck.pendingTime with
  | none => s
  | some t =>
    let o := (((t : Int) - s.fck.count.toNat) % s.day).toNat
    let u := s.setFck { s.fck with offset := some o, pendingTime := none }
    if s.fck.offset.isNone then u.lower .noTime else u

/-- Step 4 of R50: the operator inputs sampled (R56), with the transitions that this pulse recognises, in their order
(R57). -/
def State.sampleInputs (p : Pulse) (s : State) : State × List HandOff :=
  let e := s.values.inputEnables
  let t := s.fck.takeInput.sample (e.getLsbD 0) p.take
  let f := s.fck.forceInput.sample (e.getLsbD 1) p.force
  let l := s.fck.localInput.sample (e.getLsbD 2) p.localSw
  (s.setFck { s.fck with takeInput := t.1, forceInput := f.1, localInput := l.1 },
    if p.localFirst then localHandOff l.2 ++ takeHandOff t.2 f.2 else takeHandOff t.2 f.2 ++ localHandOff l.2)

/-! ### Running the parts -/

/-- The SET TIME in progress, whose setting this pulse has applied, completes DONE with the count and the resulting ToD
(R53). -/
def State.answerTime (s : State) : State :=
  s.setEqp (s.eqp.offer 0x0E .done (beCount s.fck.count ++ be 3 (s.tod.getD 0)))

/-- A SET TIME is in progress and its setting has been applied (R53). -/
def State.timeAnswerDue (s : State) : Bool := s.eqp.inProgress == some 0x0E && s.fck.pendingTime.isNone

/-- A recognised transition reaches the Take Engine (R57). -/
def State.handOff (h : HandOff) (s : State) : State :=
  match h with
  | .take => s.inputTake false
  | .force => s.inputTake true
  | .localOn => s.localRequest .input
  | .localOff => s.localRelease .input

/-- The CLAIM submitted again at a pulse (R140, R166). -/
def State.resubmitClaim (s : State) : State := if s.pcu.claimWaiting then s.submitClaim else s

/-- One part of a pulse. -/
def State.runPart (p : PulsePart) (s : State) : State :=
  match p with
  | .timeApplied => if s.timeAnswerDue then s.answerTime else s
  | .handOff h => s.handOff h
  | .pulseEnds => s.mapLines (FireLine.endPulse s.now)
  | .holdEnds => s.mapLines (FireLine.endHold s.now)
  | .take => s.runTake
  | .entries n => s.passEntries n
  | .pass => s.pass
  | .pollTimeout => s.timeoutPoll
  | .claimResubmit => s.resubmitClaim
  | .recompute => s.recompute

/-- Some parts, one after another. -/
def State.runParts (l : List PulsePart) (s : State) : State := l.foldl (fun t p => t.runPart p) s

/-- Every part of the pulse that is left, at once. -/
def State.settle (s : State) : State := (s.runParts s.pulseRest).setPulseRest []

/-- A pulse on line `n` is to end at this pulse (R89 step 1). -/
def State.pulseToEnd (s : State) (l : FireLine) : Bool := l.endPulse s.now != l

/-- A hold is to end at this pulse (R89 step 2). -/
def State.holdToEnd (s : State) (l : FireLine) : Bool := l.endHold s.now != l

/-- A part has nothing to do in a state. -/
def State.idlePart (s : State) : PulsePart → Bool
  | .timeApplied => !s.timeAnswerDue
  | .handOff _ => false
  | .pulseEnds => !s.fsc.lines.any s.pulseToEnd
  | .holdEnds => !s.fsc.lines.any s.holdToEnd
  | .take => s.takeDue.isNone
  | .entries n => n == 0 || !s.headDue
  | .pass => !s.headDue
  | .pollTimeout => !s.pollTimedOut
  | .claimResubmit => !s.pcu.claimWaiting
  | .recompute => false

/-- A part that no command of its own brings: it runs as soon as the parts before it have run. -/
def PulsePart.atOnce : PulsePart → Bool
  | .handOff _ | .recompute => true
  | _ => false

/-- Goes on over the parts `l` as far as they have nothing to do or run at once; the rest waits. -/
def State.advanceOver : List PulsePart → State → State
  | [], s => s.setPulseRest []
  | p :: l, s =>
    if p.atOnce then (s.runPart p).advanceOver l
    else if s.idlePart p then s.advanceOver l
    else s.setPulseRest (p :: l)

/-- A divided pulse goes on to its next part that has something to do. -/
def State.advance (s : State) : State := s.advanceOver s.pulseRest

/-- The four steps of R50, in their order and with no other command between them; then the parts by which the pulse is
passed on to the other blocks are set out (log entry 3). -/
def State.countPulse (p : Pulse) (s : State) : State :=
  let r := s.settle.advanceCount.applyTime.sampleInputs p
  r.1.setPulseRest (pulseParts p.place r.2)

/-- The rest of a pulse: all of it, or as far as the world divides it. -/
def State.finishPulse (p : Pulse) (s : State) : State := if p.divided then s.advance else s.settle

/-- The loss timer written (log entry 10). -/
def State.setLossTimer (halfPeriods : Nat) (s : State) : State := s.setFck { s.fck with lossTimer := halfPeriods }

/-! ### Commands within a pulse -/

/-- The parts before the first that satisfies `sel` run; absent when no part of the rest does, and while RESTARTING,
when no pulse is under way (R181). -/
def State.runTo (sel : PulsePart → Bool) (s : State) : Option State :=
  let r := s.pulseRest.span fun p => !sel p
  if !s.running || r.2.isEmpty then none else some ((s.runParts r.1).setPulseRest r.2)

/-- A part of the pulse taken by its own command; nothing when it has nothing to do. -/
def State.commandPart (p : PulsePart) (s : State) : State :=
  match s.runTo (· == p) with
  | none => s
  | some t => if t.idlePart p then s else ((t.runPart p).setPulseRest (t.pulseRest.drop 1)).advance

/-- A part of the queue pass. -/
def PulsePart.isPass : PulsePart → Bool
  | .entries n => n != 0
  | .pass => true
  | _ => false

/-- The parts after one entry of the pass has executed. -/
def afterEntry : List PulsePart → List PulsePart
  | .entries (n + 1) :: l => .entries n :: l
  | l => l

/-- One entry of the queue pass taken by its own command (R89 step 3): the head entry, when it is due and its action
is `a`. -/
def State.commandEntry (a : Action) (s : State) : State :=
  match s.runTo PulsePart.isPass with
  | none => s
  | some t =>
    if t.headDue && (t.fsc.queue.head?.map (·.action)) == some a then
      let u := t.executeHead
      (u.setPulseRest (afterEntry u.pulseRest)).advance
    else s

/-- One fire line's end taken by its own command (R89 steps 1 and 2). -/
def State.commandLine (part : PulsePart) (f : Count → FireLine → FireLine) (n : Nat) (s : State) : State :=
  match s.runTo (· == part) with
  | none => s
  | some t =>
    let l := t.fsc.line n
    if f t.now l = l then s else (t.setLine n (f t.now l)).advance

/-! ### The commands -/

/-- FRAME_PULSE (R50): a REF pulse while EXTERNAL. -/
def execFramePulse (p : Pulse) (s : State) : Host.Outcome State Fault Refusal :=
  .next (
    if s.running ∧ s.fck.status = .external then ((s.countPulse p).setLossTimer 0).finishPulse p
    else s)

/-- REF_LOST (R54): 1.5 T without a REF pulse while EXTERNAL.  Its event stands before those of the parts of its pulse
(DESIGN CHOICE, unsafe: R172 lets events of two blocks join in either order; log entry 34). -/
def execRefLost (p : Pulse) (s : State) : Host.Outcome State Fault Refusal :=
  .next (
    if s.running ∧ s.fck.status = .external then
      let c := s.fck.count
      let t := s.countPulse p
      let t := t.setFck { t.fck with status := .freeRun, lossTimer := 3, internalPulses := 1 }
      ((t.post (.refLost c t.fck.count)).raise .refLost).finishPulse p
    else s)

/-- The loss timer at the internal pulse after `h` half periods (R54): the pulse at 1.5 T is followed by that at 2 T,
and each later one by the next whole period. -/
def nextInternal (h : Nat) : Nat := if h = 3 then 4 else h + 2

/-- INTERNAL_PULSE (R54): the next internal pulse while FREE_RUN.  The number of internal pulses of a loss, 4 bytes in
REF_BACK (R191), wraps from 2^32 − 1 to 0 (DESIGN CHOICE, unsafe; log entry 10). -/
def execInternalPulse (p : Pulse) (s : State) : Host.Outcome State Fault Refusal :=
  .next (
    if s.running ∧ s.fck.status = .freeRun then
      let t := s.countPulse p
      (t.setFck { t.fck with
        lossTimer := nextInternal t.fck.lossTimer, internalPulses := t.fck.internalPulses + 1 }).finishPulse p
    else s)

/-- A REF pulse `us` microseconds after the internal pulse comes less than T/2 after it (R55). -/
def State.absorbs (s : State) (us : Nat) : Bool := decide (us * 2 * s.rate < 1000000)

/-- The Frame Clock at the return of the reference (R55): EXTERNAL, the loss timer started, REF_BACK, ref-lost
cleared. -/
def State.refReturned (s : State) : State :=
  let s := s.setFck { s.fck with status := .external, lossTimer := 0 }
  (s.post (.refBack s.fck.count s.fck.internalPulses)).lower .refLost

/-- REF_BACK (R55): the first REF pulse while FREE_RUN, absorbed or counted.  Its event stands before those of the parts of
a counted pulse (DESIGN CHOICE, unsafe: R172 lets events of two blocks join in either order; log entry 34). -/
def execRefBack (sinceInternal : Nat) (p : Pulse) (s : State) : Host.Outcome State Fault Refusal :=
  .next (
    if s.running ∧ s.fck.status = .freeRun then
      if s.absorbs sinceInternal then s.refReturned
      else ((s.countPulse p).refReturned).finishPulse p
    else s)

/-- SET_TIME_APPLIED (R53): the completion of a SET TIME in a divided pulse, whose own steps have written the offset and
cleared no-time (R50 step 3; log entry 3). -/
def execSetTimeApplied (s : State) : Host.Outcome State Fault Refusal := .next (s.commandPart .timeApplied)

/-- TAKE_EXECUTION (R38, R39): the take part of a divided pulse. -/
def execTakeExecution (s : State) : Host.Outcome State Fault Refusal := .next (s.commandPart .take)

/-- PRIME_EXECUTION (R90): the PRIME entry at the head of the pass of a divided pulse. -/
def execPrimeExecution (s : State) : Host.Outcome State Fault Refusal := .next (s.commandEntry .prime)

/-- GO_EXECUTION (R91): the GO entry at the head of the pass of a divided pulse. -/
def execGoExecution (s : State) : Host.Outcome State Fault Refusal := .next (s.commandEntry .go)

/-- PULSE_END (R89 step 1, R92) of one line in a divided pulse. -/
def execPulseEnd (line : Nat) (s : State) : Host.Outcome State Fault Refusal :=
  .next (s.commandLine .pulseEnds FireLine.endPulse line)

/-- LEVEL_HOLD_END (R89 step 2, R94) of one line in a divided pulse. -/
def execLevelHoldEnd (line : Nat) (s : State) : Host.Outcome State Fault Refusal :=
  .next (s.commandLine .holdEnds FireLine.endHold line)

/-- POLL_TIMEOUT (R152): the timeout part of a divided pulse. -/
def execPollTimeout (s : State) : Host.Outcome State Fault Refusal := .next (s.commandPart .pollTimeout)

/-- CLAIM_RESUBMIT (R140, R166): the resubmission part of a divided pulse. -/
def execClaimResubmit (s : State) : Host.Outcome State Fault Refusal := .next (s.commandPart .claimResubmit)

end Sys2Proof.Machine
end

