-- ==== Sys2Proof/Machine/Line.lean ====
section
/-! DEFINITION. The Line Engine (chapter 6): the bit times between frames, this station's own attempts, and the commands
of the line that are not a received frame of a kind. -/

namespace Sys2Proof.Machine

/-- The Line Engine's phase, part and receive record written. -/
def LineEngine.enter (p : LinePhase) (part : LinePart) (l : LineEngine) : LineEngine :=
  { l with phase := p, part := part }

/-! ### The bit times of the gap and of the end field (R103, R106, R110) -/

/-- The line back in GAP with its count at 0 (R103, R106). -/
def LineEngine.toGap (l : LineEngine) : LineEngine := { l with phase := .gap 0, part := .none, rx := none }

/-- A recessive bit time (R103, R110): in GAP the count rises to IDLE at 11, in the end field the field ends at 8. -/
def LineEngine.recessive (l : LineEngine) : LineEngine :=
  match l.phase with
  | .gap n =>
    if 10 ≤ n then { l with phase := .idle, dominantRun := 0, suspended := false }
    else { l with phase := .gap (n + 1), dominantRun := 0 }
  | .frame (some k) => if 7 ≤ k then l.toGap else { l with phase := .frame (some (k + 1)) }
  | _ => l

/-- The line at a start bit that this station has not driven (R103, R110): FRAME, LISTENING, the dominant run back at 0. -/
def LineEngine.startBit (l : LineEngine) : LineEngine :=
  { l with phase := .frame none, part := .listening, dominantRun := 0, rx := none }

/-- A dominant bit time (R103, R106, R110): in GAP it sets the count back and adds to the dominant run, in IDLE it is a
start bit, in the end field it ends the field.  The bit times inside a frame are read with that frame's own command
(log entry 14). -/
def LineEngine.dominant (l : LineEngine) : LineEngine :=
  match l.phase with
  | .gap _ =>
    { l with phase := .gap 0, dominantRun := min 64 (l.dominantRun + 1),
             suspended := l.suspended || l.dominantRun == 63 }
  | .idle => l.startBit
  | .frame (some _) => l.toGap
  | .frame none => l

/-- The dominant bit time that makes the line stuck (R110). -/
def LineEngine.sticks (l : LineEngine) : Bool :=
  match l.phase with
  | .gap _ => l.dominantRun == 63
  | _ => false

/-- One bit time read in GAP, in IDLE or in the end field: true for dominant. -/
def State.lineBit (dominant : Bool) (s : State) : State :=
  if dominant then
    let t := s.setLne s.lne.dominant
    if s.lne.sticks then t.raise .lineStuck else t
  else s.setLne s.lne.recessive

/-- A row of bit times. -/
def State.lineBits (bits : List Bool) (s : State) : State := bits.foldl (fun t b => t.lineBit b) s

/-- The bit times that bring a quiet line from the end field to IDLE: 8 of the end field and 11 of the gap (R103). -/
def quietBits : List Bool := List.replicate 19 false

/-- The bit times that bring a line held dominant from the end field to stuck: one, and a run of 64 (R110). -/
def stuckBits : List Bool := List.replicate 65 true

/-! ### The station's own attempts (R104 to R109, R114 to R116) -/

/-- The sender field of an attempt: the own number, or the candidate that a CLAIM carries (R105). -/
def State.senderOf (s : State) : Payload → Nat
  | .claim k _ _ => k
  | _ => s.pcu.ownNumber

/-- The lead and late flag of an attempt that starts now, for air frame `A` (R34). -/
def leadOf (now A : Count) : Byte × Bool :=
  if Count.diff now A < 0 then (0, true) else (BitVec.ofNat 8 (Count.diff now A).toNat, false)

/-- The lead and late flag of a payload: only a TAKE has them (R34). -/
def Payload.leadAt (now : Count) : Payload → Byte × Bool
  | .take _ _ A => leadOf now A
  | _ => (0, false)

/-- The frame of an entry as completed at the start bit of an attempt (R105). -/
def State.attemptWire (s : State) (e : QueueEntry) : Wire :=
  let l := e.payload.leadAt s.now
  Wire.make e.payload.kind (s.senderOf e.payload) e.address (e.payload.bytes (e.sequence.getD 0) l.1 l.2)

/-- The entry at its start bit: at the first attempt it becomes in flight, with its expected set (R114, R159). -/
def State.startFlight (s : State) (e : QueueEntry) : QueueEntry :=
  match e.flight with
  | some _ => e
  | none => { e with flight := some { attempts := 0, expected := s.expectedSet e.address, delivered := 0 } }

/-- Which entry of its queue an offer names: the CLAIM while claiming, the entry in flight, else the head (R159). -/
def State.offeredEntry (s : State) (byRing : Bool) (e : QueueEntry) : Bool :=
  if s.pcu.mode == .claiming then e.isClaim else if byRing then true else e.inFlight && !e.isClaim

/-- The ring pointer after a choice of the ring (R160). -/
def State.moveRing (byRing : Bool) (s : State) : State :=
  if byRing then s.setObq { s.obq with ringPointer := (s.obq.ringPointer + 1) % 8 } else s

/-- The line at a start bit that this station drives (R103). -/
def LineEngine.drive (w : Wire) (l : LineEngine) : LineEngine :=
  { l with phase := .frame none, part := .contending, dominantRun := 0, rx := none, tx := some w, read := 0 }

/-- An attempt of the offered entry starts (R103, R105, R114, R159). -/
def State.startAttempt (q : QueueName) (e : QueueEntry) (byRing : Bool) (s : State) : State :=
  let w := s.attemptWire e
  let t := s.modQueue q (modFirst (s.offeredEntry byRing) s.startFlight)
  (t.moveRing byRing).setLne (s.lne.drive w)

/-- The Line Engine may start a frame (R103). -/
def State.maySend (s : State) : Bool := s.running && s.lne.phase == .idle && !s.lne.suspended

/-- The station is CONTENDING or SENDING. -/
def State.driving (s : State) : Bool := s.lne.part == .contending || s.lne.part == .sending

/-- The attempt under way is of a CLAIM. -/
def State.sendsClaim (s : State) : Bool :=
  match s.lne.tx with
  | some w => w.frameKind == some .claim
  | none => false

/-- The entry whose attempt is under way, in a queue. -/
def isCurrent (claim : Bool) (e : QueueEntry) : Bool := e.inFlight && (e.isClaim == claim)

/-- The entry whose attempt is under way, with its queue. -/
def State.currentEntry (s : State) : Option (QueueName × QueueEntry) :=
  if s.sendsClaim then (s.obq.routine.find? (isCurrent true)).map (.routine, ·) else s.flightEntry

/-- The attempt under way ends without reaching its end: the station listens on (R107, R109). -/
def State.stopDriving (s : State) : State := s.setLne { s.lne with part := .listening, tx := none, read := 0 }

/-! ### The bits of an attempt as read against those sent (R107 to R109) -/

/-- The bit times of the start bit and the arbitration field (R104): after them a station that still contends has won. -/
def arbitrationBits : Nat := 9

/-- The bit times, counted from the start bit on, through which a frame contends (R107): the arbitration field, and for a
CLAIM its identity too (R108). -/
def contentionBits (w : Wire) : Nat := if w.frameKind == some .claim then 75 else arbitrationBits

/-- The levels that the sender of a frame drives from its bit time `n` on, up to the last bit of the check; true for
dominant. -/
def sentFrom (w : Wire) (n : Nat) : List Bool := (w.bits.drop n).map (!·)

/-- What the bits read so far make of an attempt (R107 to R109). -/
inductive AttemptReading where
  /-- Every bit read is the one sent: the attempt goes on, with this many bit times read. -/
  | goesOn (read : Nat)
  /-- Lost in the arbitration field (R107). -/
  | lostArbitration
  /-- A CLAIM lost in the fields after it (R108). -/
  | lostIdentity
  /-- Collided (R109). -/
  | collided
deriving DecidableEq, Repr

/-- What a bit read otherwise than sent, at bit time `n`, makes of an attempt that contends for `limit` bit times: a
dominant bit within them is a contention lost, every other one a collision. -/
def readingOf (limit n : Nat) (read : Bool) : AttemptReading :=
  if read && decide (n < limit) then if n < arbitrationBits then .lostArbitration else .lostIdentity else .collided

/-- The levels `sent` from bit time `n` on compared with those read, one by one, up to the first that differs. -/
def compareBits (limit : Nat) : Nat → List Bool → List Bool → AttemptReading
  | n, a :: sent, b :: read => if a = b then compareBits limit (n + 1) sent read else readingOf limit n b
  | n, _, _ => .goesOn n

/-- The attempt under way after `bits` more of its bit times have been read. -/
def LineEngine.reading (bits : List Bool) (l : LineEngine) : AttemptReading :=
  match l.tx with
  | none => .goesOn l.read
  | some w => compareBits (contentionBits w) l.read (sentFrom w l.read) bits

/-- The attempt under way goes on with `n` bit times read: past the arbitration field the station has won it and is
SENDING (R107; a CLAIM contends on as R108 says). -/
def State.goOnDriving (n : Nat) (s : State) : State :=
  s.setLne { s.lne with part := if arbitrationBits ≤ n then .sending else s.lne.part, read := n }

/-- The current entry changed in its place. -/
def State.modCurrent (q : QueueName) (claim : Bool) (f : QueueEntry → QueueEntry) (s : State) : State :=
  s.modQueue q (modFirst (isCurrent claim) f)

/-- The current entry, done, leaves its queue (R161). -/
def State.dropCurrent (q : QueueName) (claim : Bool) (s : State) : State := s.modQueue q (dropFirst (isCurrent claim))

/-- The report of an acknowledged frame that is done (R116): SEND_RESULT, send-incomplete, the misses. -/
def State.reportResult (e : QueueEntry) (f : Flight) (complete : Bool) (s : State) : State :=
  let missing := f.expected &&& ~~~ f.delivered
  let s := s.post (.sendResult e.payload.kind (e.sequence.getD 0) e.address f.attempts f.delivered missing
    (if complete then .complete else .incomplete))
  let s := if missing = 0 then s else s.raise .sendIncomplete
  s.missPeers missing

/-- A SWEEP done: the sweep result, its event, and the guard's decision (R151, R32). -/
def State.sweepDone (item : ItemId) (o : SentOutcome) (expected ready : StationSet) (s : State) : State :=
  let notReady := expected &&& ~~~ ready
  let r : SweepResult :=
    { item := item, outcome := o, expected := expected, ready := ready, notReady := notReady, count := s.now }
  ((s.setPcu { s.pcu with sweep := some r }).post (.sweepResult item o expected ready notReady)).guardDecide r

/-- The outcome of a non-acknowledged frame handed to the Peer and Census Unit (R116): a DROPPED one raises
send-incomplete first. -/
def State.reportSent (e : QueueEntry) (f : Flight) (o : SentOutcome) (answered : StationSet) (s : State) : State :=
  let s := if o = .dropped then s.raise .sendIncomplete else s
  match e.payload with
  | .sweep i => s.sweepDone i o f.expected answered
  | .poll => s.pollDone o answered
  | .claim k _ _ => s.claimDone (o == .dropped || inSet answered k)
  | _ => s

/-- The counted attempts after which a frame is done (R115). -/
def State.attemptLimit (s : State) : Nat := 1 + s.values.retryLimit

/-- The current entry's own TAKE at the end of the check field of its first attempt sent: when its record was
superseded it is placed again (R36).  Its carried duration is the frame's, as submitted, also when a STRETCH had changed
the record's before it was superseded (DEDUCED, unsafe; log entry 32). -/
def State.replaceIfSuperseded (e : QueueEntry) (s : State) : State :=
  match e.payload with
  | .take i d A => if e.superseded && !e.sentOnce then s.replaceOwnTake i d A (e.sequence.getD 0) else s
  | _ => s

/-- An attempt sent to the end of its roll-call field (R115), with its answered set. -/
def State.endAttempt (q : QueueName) (e : QueueEntry) (answered : StationSet) (s : State) : State :=
  match e.flight with
  | none => s
  | some f =>
    let f := { f with attempts := f.attempts + 1, delivered := f.delivered ||| answered }
    if e.payload.kind.acknowledged then
      if f.expected &&& ~~~ f.delivered = 0 then (s.dropCurrent q e.isClaim).reportResult e f true
      else if s.attemptLimit ≤ f.attempts then (s.dropCurrent q e.isClaim).reportResult e f false
      else s.modCurrent q e.isClaim fun x => { x with flight := some f, sentOnce := true }
    else (s.dropCurrent q e.isClaim).reportSent e f .sent answered

/-- An attempt that collided (R109, R115): counted, and at the limit the frame is done, INCOMPLETE or DROPPED. -/
def State.endCollided (q : QueueName) (e : QueueEntry) (s : State) : State :=
  match e.flight with
  | none => s
  | some f =>
    let f := { f with attempts := f.attempts + 1 }
    if s.attemptLimit ≤ f.attempts then
      if e.payload.kind.acknowledged then (s.dropCurrent q e.isClaim).reportResult e f false
      else (s.dropCurrent q e.isClaim).reportSent e f .dropped 0
    else s.modCurrent q e.isClaim fun x => { x with flight := some f }

/-- The attempt under way has collided (R109, R115): the station listens on, and the attempt is counted. -/
def State.collide (s : State) : State :=
  match s.currentEntry with
  | none => s
  | some (q, e) => s.stopDriving.endCollided q e

/-- The line after the roll-call field of a frame: its end field begins (R104).  The own part is NONE from here on (DESIGN
CHOICE, safe: R103 does not say when it ends; log entry 11). -/
def LineEngine.endField (l : LineEngine) : LineEngine :=
  { l with phase := .frame (some 0), part := .none, tx := none, read := 0 }

/-! ### Receiving (R103, R106) -/

/-- The line in a frame that this station has not driven: a frame can begin only in IDLE, so a gap or an end field has
first run out quietly, and then comes its start bit (R103); a frame already under way, whose start bit has been read or
whose contention this station lost, goes on (R107). -/
def State.toFrame (s : State) : State :=
  match s.lne.phase with
  | .frame none => s
  | _ => s.lineBits (quietBits ++ [true])

/-- The station can receive a frame: it runs and drives none of its own (R106, R181). -/
def State.mayReceive (s : State) : Bool := s.running && !s.driving

/-! ### The commands -/

/-- LINE_IDLE (R103, R110): from GAP, IDLE or the end field, the bits given and then recessive ones until the line is IDLE;
after a start bit among those given, the line stays in that frame until its own command. -/
def execLineIdle (bits : List Bool) (s : State) : Host.Outcome State Fault Refusal :=
  .next (if s.running then s.lineBits (bits ++ quietBits) else s)

/-- LINE_STUCK (R110): from GAP or the end field, the bits given and then dominant ones until the run is 64; in IDLE the
first dominant one is a start bit, and the run begins in the GAP after that frame. -/
def execLineStuck (bits : List Bool) (s : State) : Host.Outcome State Fault Refusal :=
  .next (if s.running then s.lineBits (bits ++ stuckBits) else s)

/-- SEND_OPPORTUNITY (R103, R159): a bit time of IDLE in which the queues offer a frame. -/
def execSendOpportunity (s : State) : Host.Outcome State Fault Refusal :=
  .next (
    if s.maySend then
      match s.offer with
      | none => s
      | some (q, e, byRing) => s.startAttempt q e byRing
    else s)

/-- CONTENTION_LOST (R107, R108, R141): a bit of the arbitration field read dominant and sent recessive leaves the frame
waiting, uncounted; one after it loses a CLAIM by identity.  Bits that are all as sent leave the attempt CONTENDING, or
SENDING once it has won; bits that differ otherwise are a collision (R109). -/
def execContentionLost (bits : List Bool) (s : State) : Host.Outcome State Fault Refusal :=
  .next (
    if s.running && s.driving then
      match s.lne.reading bits with
      | .goesOn n => s.goOnDriving n
      | .lostArbitration => s.stopDriving
      | .lostIdentity => (s.stopDriving.removeClaim).refuseCandidate
      | .collided => s.collide
    else s)

/-- COLLISION (R109, R115): a bit of the attempt is read otherwise than sent, past the contention, or recessive where a
dominant one was sent; which bit it was changes nothing (log entry 14). -/
def execCollision (s : State) : Host.Outcome State Fault Refusal :=
  .next (if s.running && s.driving then s.collide else s)

/-- ATTEMPT_SENT (R36, R111, R115, R116): the attempt, which has won and is SENDING by then, has reached the end of its
roll-call field.  The census of its answered set, with its PEER_CHANGE events, comes before the outcome with its
SEND_RESULT, SWEEP_RESULT or POLL_RESULT (DESIGN CHOICE, unsafe: R172 lets events of two blocks join in either order, and
neither R151 nor R152 places the result among the census's events; log entry 37). -/
def execAttemptSent (slots : StationSet) (s : State) : Host.Outcome State Fault Refusal :=
  .next (
    if s.running && s.driving then
      match s.currentEntry with
      | none => s
      | some (q, e) =>
        let answered := s.answered slots
        (((s.replaceIfSuperseded e).rollCall answered).setLne s.lne.endField).endAttempt q e answered
    else s)

/-- FRAME_NOT_HEARD (R106): the frame is received, discarded and not answered. -/
def execFrameNotHeard (f : RxFrame) (s : State) : Host.Outcome State Fault Refusal :=
  .next (
    if s.mayReceive && !f.wire.heard then
      let t := s.toFrame
      t.setLne { t.lne.endField with rx := some { wire := f.wire, check := f.wire.computed, accepted := none } }
    else s)

/-- END_FIELD_DOMINANT_BIT (R106): the phase goes to GAP at once; the frame's outcome stands. -/
def execEndFieldDominantBit (s : State) : Host.Outcome State Fault Refusal :=
  .next (
    match s.running, s.lne.phase with
    | true, .frame (some _) => s.lineBit true
    | _, _ => s)

end Sys2Proof.Machine
end

