-- ==== Sys2Proof/Machine/Frames.lean ====
section
/-! DEFINITION. Received frames (R106, R111 to R113) and the eighteen frame kinds (chapter 7): the acceptance tests and
the effect of each. -/

namespace Sys2Proof.Machine

/-! ### Acceptance (R112, R118) -/

/-- The frame is addressed to this station (R112 test 3). -/
def State.addressed (s : State) (w : Wire) : Bool :=
  if w.byNumber then w.number == s.pcu.ownNumber
  else w.address == 0xFF || (w.address &&& s.values.roles) != 0

/-- The station is ready for an item (R127). -/
def State.readyFor (s : State) (id : ItemId) : Bool :=
  validItem id && !s.suppresses &&
    match s.findItem id with
    | none => true
    | some i =>
      i.elements.isEmpty ||
        (!i.notReady && decide (i.elements.length + (i.elements.filter Element.primable).length ≤ s.fsc.free))

/-- The target of a poll that is AWAITING (R134). -/
def State.awaits (s : State) (k : Nat) : Bool :=
  match s.pcu.poll with
  | .awaiting t _ => t == k
  | _ => false

/-- A control-state code is one of the four (R118). -/
def controlField (b : Byte) : Bool := (Control.ofCode b).isSome

/-- The kind's own acceptance test (R112 test 4, R118). -/
def State.kindTest (s : State) (kd : Kind) (w : Wire) : Bool :=
  match kd with
  | .take => validItem w.item && decide ((field24 w.body 5).toNat ≤ Config.maxDuration)
  | .clear | .lockout | .release => true
  | .standby | .hold | .resume | .stretch | .drop | .float | .restore => validItem w.item
  | .cue => s.hasRole floorBit && validItem w.item && decide ((byteAt w.body 3).toNat ≤ autoStage.toNat)
  | .sweep => s.readyFor (field16 w.body 0)
  | .attention => s.hasRole directorBit && (Reason.ofCode (byteAt w.body 1)).isSome && reportableItem (field16 w.body 2)
  | .poll => w.byNumber
  | .status =>
    s.awaits w.sender.toNat && controlField (byteAt w.body 0) && reportableItem (field16 w.body 1) &&
      reportableItem (field16 w.body 3) && reportableItem (field16 w.body 5) &&
      decide ((byteAt w.body 7).toNat ≤ Config.fireCapacity)
  | .announce => controlField (byteAt w.body 7) && reportableItem (field16 w.body 8) && reportableItem (field16 w.body 10)
  | .claim => w.byNumber && w.number == w.sender.toNat && w.number == s.pcu.ownNumber

/-- Tests 2 to 4 of the acceptance decision (R112). -/
def State.accepts (s : State) (kd : Kind) (w : Wire) : Bool := s.isActive && s.addressed w && s.kindTest kd w

/-- Test 1 of the acceptance decision (R112): a frame other than a CLAIM bears the own number. -/
def State.conflicts (s : State) (kd : Kind) (w : Wire) : Bool :=
  decide (kd ≠ .claim ∧ s.pcu.ownNumber ≠ 0 ∧ w.sender.toNat = s.pcu.ownNumber)

/-- The frame repeats the last sequence of its sender (R113). -/
def State.repeats (s : State) (w : Wire) : Bool :=
  (s.pcu.peer w.sender.toNat).bind (·.lastSequence) == some w.sequence

/-- The last sequence of the sender written (R113). -/
def State.noteSequence (w : Wire) (s : State) : State :=
  s.modPeer w.sender.toNat fun p => { p with lastSequence := some w.sequence }

/-- An accepted frame handed on, after the repeat test for an acknowledged kind (R112, R113). -/
def State.handFrame (kd : Kind) (w : Wire) (effect : State → State) (s : State) : State :=
  if kd.acknowledged then if s.repeats w then s else effect (s.noteSequence w) else effect s

/-- The end of the check field of a heard frame (R106, R112): the census hand-off, then the decision; the second answer
is whether the station accepts. -/
def State.decideFrame (kd : Kind) (w : Wire) (effect : State → State) (s : State) : State × Bool :=
  let s := s.census kd w
  if s.conflicts kd w then (s.numberConflict kd, false)
  else if s.accepts kd w then (s.handFrame kd w effect, true)
  else (s, false)

/-- The end of the roll-call field of a heard frame (R111, R148), with its answered set.  The census of the answered set,
with its PEER_CHANGE events, comes before that of the claimant (DESIGN CHOICE, unsafe: the manual gives the two no order; log
entry 43). -/
def State.endRollCall (kd : Kind) (f : RxFrame) (answered : StationSet) (s : State) : State :=
  let s := s.rollCall answered
  if kd = .claim then s.censusClaim f.wire f.slots else s

/-- A heard frame of kind `kd` received, with its effect when it is accepted and no repeat.  Its answered set leaves out the
number held when the frame was heard, also when a conflict takes that number away at the check field: R145 lets the table
gain no entry for it from that frame, where R111 leaves out the own number, 0 by then (DEDUCED, unsafe; log entry 47). -/
def State.receive (kd : Kind) (f : RxFrame) (effect : State → State) (s : State) : State :=
  if s.mayReceive && f.wire.heardAs kd then
    let r := s.toFrame.decideFrame kd f.wire effect
    let t := r.1.endRollCall kd f (s.answered f.slots)
    t.setLne { t.lne.endField with
      rx := some { wire := f.wire, check := f.wire.computed, accepted := some r.2 } }
  else s

/-! ### The effects that live in the Peer and Census Unit -/

/-- A STATUS stored as the poll result (R134, R152). -/
def State.storeStatus (w : Wire) (s : State) : State :=
  s.endPoll w.sender.toNat .none (some (StatusBody.ofBytes w.body))

/-- An accepted ATTENTION recorded (R153). -/
def State.takeAttention (w : Wire) (s : State) : State :=
  match Reason.ofCode (byteAt w.body 1) with
  | some r => s.recordAttention w.sender.toNat r (field16 w.body 2)
  | none => s

/-! ### The commands -/

/-- TAKE_FRAME (R35, R120): the air frame is reckoned from the pulse that began the period of the start bit. -/
def execTakeFrame (f : RxFrame) (s : State) : Host.Outcome State Fault Refusal :=
  .next (s.receive .take f fun t => t.receiveTake f.wire (t.now - BitVec.ofNat 32 f.startAgo))

/-- CLEAR_FRAME (R43, R121). -/
def execClearFrame (f : RxFrame) (s : State) : Host.Outcome State Fault Refusal :=
  .next (s.receive .clear f State.applyClear)

/-- STANDBY_FRAME (R41, R122). -/
def execStandbyFrame (f : RxFrame) (s : State) : Host.Outcome State Fault Refusal :=
  .next (s.receive .standby f (State.applyStandby f.wire.item f.wire.sender.toNat))

/-- HOLD_FRAME (R44, R123). -/
def execHoldFrame (f : RxFrame) (s : State) : Host.Outcome State Fault Refusal :=
  .next (s.receive .hold f (State.applyHold f.wire.item))

/-- RESUME_FRAME (R45, R123). -/
def execResumeFrame (f : RxFrame) (s : State) : Host.Outcome State Fault Refusal :=
  .next (s.receive .resume f (State.applyResume f.wire.item))

/-- STRETCH_FRAME (R22, R124). -/
def execStretchFrame (f : RxFrame) (s : State) : Host.Outcome State Fault Refusal :=
  .next (s.receive .stretch f
    (State.applyEdit (.stretch (field16 f.wire.body 3).toInt) f.wire.sender.toNat f.wire.item))

/-- CUE_FRAME (R72, R125). -/
def execCueFrame (f : RxFrame) (s : State) : Host.Outcome State Fault Refusal :=
  .next (s.receive .cue f (State.applyCue f.wire.item (byteAt f.wire.body 3)))

/-- SWEEP_FRAME (R126, R127): the answer in the slot is its whole part. -/
def execSweepFrame (f : RxFrame) (s : State) : Host.Outcome State Fault Refusal :=
  .next (s.receive .sweep f id)

/-- ATTENTION_FRAME (R128, R153). -/
def execAttentionFrame (f : RxFrame) (s : State) : Host.Outcome State Fault Refusal :=
  .next (s.receive .attention f (State.takeAttention f.wire))

/-- DROP_FRAME (R20, R131). -/
def execDropFrame (f : RxFrame) (s : State) : Host.Outcome State Fault Refusal :=
  .next (s.receive .drop f (State.applyEdit .drop f.wire.sender.toNat f.wire.item))

/-- FLOAT_FRAME (R21, R131). -/
def execFloatFrame (f : RxFrame) (s : State) : Host.Outcome State Fault Refusal :=
  .next (s.receive .float f (State.applyEdit .float f.wire.sender.toNat f.wire.item))

/-- RESTORE_FRAME (R21, R131). -/
def execRestoreFrame (f : RxFrame) (s : State) : Host.Outcome State Fault Refusal :=
  .next (s.receive .restore f (State.applyEdit .restore f.wire.sender.toNat f.wire.item))

/-- POLL_FRAME (R132, R133). -/
def execPollFrame (f : RxFrame) (s : State) : Host.Outcome State Fault Refusal :=
  .next (s.receive .poll f (State.answerPoll f.wire.sender.toNat))

/-- STATUS_FRAME (R134, R152). -/
def execStatusFrame (f : RxFrame) (s : State) : Host.Outcome State Fault Refusal :=
  .next (s.receive .status f (State.storeStatus f.wire))

/-- LOCKOUT_FRAME (R46, R135). -/
def execLockoutFrame (f : RxFrame) (s : State) : Host.Outcome State Fault Refusal :=
  .next (s.receive .lockout f (State.applyLockout f.wire.sender.toNat))

/-- RELEASE_FRAME (R46, R135). -/
def execReleaseFrame (f : RxFrame) (s : State) : Host.Outcome State Fault Refusal :=
  .next (s.receive .release f (State.applyRelease f.wire.sender.toNat))

/-- ANNOUNCE_FRAME (R137, R147): the census hand-off is its whole effect. -/
def execAnnounceFrame (f : RxFrame) (s : State) : Host.Outcome State Fault Refusal :=
  .next (s.receive .announce f id)

/-- CLAIM_FRAME (R138, R148): the holder answers, and the census reads the slot at the end of the roll-call field. -/
def execClaimFrame (f : RxFrame) (s : State) : Host.Outcome State Fault Refusal :=
  .next (s.receive .claim f id)

end Sys2Proof.Machine
end

