-- ==== Sys2Proof/Machine/EditRequests.lean ====
section
/-! DEFINITION. The edits from the equipment port (sections 1.1 and 1.3): LOAD ITEM to RESTORE. -/

namespace Sys2Proof.Machine

/-! ### Fields (R10, R190) -/

/-- A planned duration as a request carries it, clamped (R10). -/
def clampDuration (d : BitVec 24) : Nat := min Config.maxDuration d.toNat

/-- The 24-bit value that stands for absent or KEEP (R190). -/
def noValue24 : BitVec 24 := 0xFFFFFF

/-- A field that names an anchor: 0 for FIRST, else an item (R190). -/
def validAnchor (a : ItemId) : Bool := a != 0xFFFF

/-- A hard out: absent, or a ToD below D (R10, R190). -/
def State.validHardOut (s : State) (h : BitVec 24) : Bool := h == noValue24 || decide (h.toNat < s.day)

/-- A hard out taken from its field. -/
def hardOutOf (h : BitVec 24) : Option Nat := if h = noValue24 then none else some h.toNat

/-- A cue basis taken from its code. -/
def basisOf (b : Byte) : CueBasis := if b = 1 then .segment else .item

/-- An element ID is 1 … 16 (00_scope). -/
def validElement (e : Byte) : Bool := decide (1 ≤ e.toNat ∧ e.toNat ≤ 16)

/-- An edit completed DONE, with the recomputation that it makes (R10, R60). -/
def State.edited (s : State) (fields : List Byte) : Reply := s.recompute.done fields

/-! ### Items (R11 to R14, R18) -/

/-- A new item record (R2). -/
def newItem (id : ItemId) (duration : Nat) (hardOut : Option Nat) (basis : CueBasis) : Item where
  id := id
  duration := duration
  state := .waiting
  hardOut := hardOut
  basis := basis
  airStart := none
  actual := none
  lateMark := false
  lateFrames := 0
  held := false
  elements := []

/-- LOAD ITEM (R11). -/
def State.loadItem (item : ItemId) (duration hardOut : BitVec 24) (basis : Byte) (anchor : ItemId) (s : State) :
    Reply :=
  if !(validItem item && validAnchor anchor && s.validHardOut hardOut && decide (basis.toNat ≤ 1)) then
    s.refuse .badField
  else if (s.findItem item).isSome then s.refuse .duplicate
  else if anchor ≠ 0 ∧ (s.findItem anchor).isNone then s.refuse .noSuchItem
  else if Config.maxItems ≤ s.rls.items.length then s.refuse .storeFull
  else
    let x := newItem item (clampDuration duration) (hardOutOf hardOut) (basisOf basis)
    (s.setItems (placeItem x anchor s.rls.items)).edited []

/-- The hard-out action of AMEND ITEM (R12, R190): KEEP 0, SET 1, CLEAR 2. -/
def amendHardOut (action : Byte) (h : BitVec 24) (old : Option Nat) : Option Nat :=
  if action = 1 then some h.toNat else if action = 2 then none else old

/-- The cue-basis field of AMEND ITEM (R12, R190): 2 for KEEP. -/
def amendBasis (b : Byte) (old : CueBasis) : CueBasis := if b = 2 then old else basisOf b

/-- The fields of AMEND ITEM lie in their ranges (R10, R12): the hard out is looked at with SET alone. -/
def State.validAmend (s : State) (item : ItemId) (action : Byte) (h : BitVec 24) (basis : Byte) : Bool :=
  validItem item && decide (action.toNat ≤ 2) && (action != 1 || decide (h.toNat < s.day)) && decide (basis.toNat ≤ 2)

/-- AMEND ITEM (R12). -/
def State.amendItem (item : ItemId) (duration : BitVec 24) (action : Byte) (hardOut : BitVec 24) (basis : Byte)
    (s : State) : Reply :=
  if !s.validAmend item action hardOut basis then s.refuse .badField
  else
    match s.findItem item with
    | none => s.refuse .noSuchItem
    | some i =>
      let s := s.modItem item fun x =>
        { x with hardOut := amendHardOut action hardOut x.hardOut, basis := amendBasis basis x.basis }
      let s := if duration = noValue24 then s else s.setDuration i (clampDuration duration)
      s.edited []

/-- MOVE ITEM (R13). -/
def State.moveItem (item anchor : ItemId) (s : State) : Reply :=
  if !(validItem item && validAnchor anchor && anchor != item) then s.refuse .badField
  else
    match s.findItem item with
    | none => s.refuse .noSuchItem
    | some i =>
      if anchor ≠ 0 ∧ (s.findItem anchor).isNone then s.refuse .noSuchItem
      else (s.setItems (placeItem i anchor (s.rls.items.filter (·.id != item)))).edited []

/-- DELETE ITEM (R14). -/
def State.deleteItem (item : ItemId) (s : State) : Reply :=
  if !validItem item then s.refuse .badField
  else
    match s.findItem item with
    | none => s.refuse .noSuchItem
    | some i => if i.state = .onAir then s.refuse .onAir else (s.removeItem item .deleted).edited []

/-- FLOAT (R18). -/
def State.floatEdit (item : ItemId) (s : State) : Reply :=
  if !validItem item then s.refuse .badField
  else
    match s.findItem item with
    | none => s.refuse .noSuchItem
    | some i => if i.state = .onAir then s.refuse .onAir else (s.floatItem i).1.edited []

/-- RESTORE (R18). -/
def State.restoreEdit (item : ItemId) (s : State) : Reply :=
  if !validItem item then s.refuse .badField
  else
    match s.findItem item with
    | none => s.refuse .noSuchItem
    | some i => (s.restoreItem i).1.edited []

/-! ### Elements (R7, R15 to R17) -/

/-- The fields of LOAD ELEMENT lie in their ranges (R15, R190). -/
def validLoadElement (item : ItemId) (element anchor needsReady target takeOff : Byte) : Bool :=
  validItem item && validElement element && decide (anchor.toNat ≤ 1) && decide (needsReady.toNat ≤ 1) &&
    (Target.ofByte target).isSome && decide (takeOff.toNat ≤ 1)

/-- The new element record (R4, R15). -/
def newElement (element anchor : Byte) (offset : BitVec 16) (preRoll needsReady target : Byte)
    (duration : BitVec 16) (takeOff : Byte) : Element where
  id := element.toNat
  anchor := if anchor = 1 then .ending else .start
  offset := offset.toNat
  preRoll := preRoll.toNat
  needsReady := needsReady == 1
  ready := false
  target := (Target.ofByte target).getD .event
  duration := duration.toNat
  takeOff := if takeOff = 1 then .force else .cancel
  state := .idle
  primeFrame := none
  remainder := none
  late := 0

/-- An element withdrawn, with the RELEASE of one that was PRIMED (R15, R17). -/
def State.dropEntries (id : ItemId) (x : Element) (s : State) : State := (s.withdraw id x.id).releaseIfPrimed id x

/-- The record written over the old element of its ID, or in element-ID order (R15). -/
def State.writeElement (i : Item) (x : Element) (s : State) : State :=
  let s := match i.findElement x.id with
    | none => s
    | some old => s.dropEntries i.id old
  s.modItem i.id fun y => { y with elements := putElement x y.elements }

/-- What follows by the item's state (R15, R16, R87): priming in a STANDBY item, with its NOT_READY ATTENTION; the
on-air placing; nothing in any other.  A FIRE_OVERFLOW ATTENTION of the priming is submitted before the NOT_READY (DESIGN
CHOICE, unsafe: R129 gives the two no order; log entry 39). -/
def State.placeByState (i : Item) (x : Element) (s : State) : State :=
  match i.state with
  | .standby =>
    let s := s.primeElement i.id x
    if x.needsReady then s.autoAttention .notReady i.id else s
  | .onAir =>
    let r := s.placeLoaded i x
    if r.2 then r.1.autoAttention .prerollShort i.id else r.1
  | _ => s

/-- The state byte that the response of LOAD ELEMENT carries (R15). -/
def State.elementStateByte (s : State) (id : ItemId) (e : Nat) : Byte :=
  match s.findElement id e with
  | some x => x.state.code
  | none => 0

/-- LOAD ELEMENT (R15, R16). -/
def State.loadElement (item : ItemId) (element anchor : Byte) (offset : BitVec 16) (preRoll needsReady target : Byte)
    (duration : BitVec 16) (takeOff : Byte) (s : State) : Reply :=
  if !validLoadElement item element anchor needsReady target takeOff then s.refuse .badField
  else
    match s.findItem item with
    | none => s.refuse .noSuchItem
    | some i =>
      if (i.findElement element.toNat).isNone &&
          (decide (Config.maxElementsPerItem ≤ i.elements.length) ||
            decide (Config.maxElements ≤ poolUsed s.rls.items)) then
        s.refuse .storeFull
      else
        let x := newElement element anchor offset preRoll needsReady target duration takeOff
        let t := ((s.writeElement i x).placeByState i x).recompute
        t.done [t.elementStateByte item element.toNat]

/-- DELETE ELEMENT (R17). -/
def State.deleteElement (item : ItemId) (element : Byte) (s : State) : Reply :=
  if !(validItem item && validElement element) then s.refuse .badField
  else
    match s.findItem item with
    | none => s.refuse .noSuchItem
    | some i =>
      match i.findElement element.toNat with
      | none => s.refuse .noSuchElement
      | some x =>
        ((s.dropEntries item x).modItem item fun y =>
          { y with elements := y.elements.filter fun z => z.id != x.id }).edited []

/-- SET READY (R7). -/
def State.setReady (item : ItemId) (element value : Byte) (s : State) : Reply :=
  if !(validItem item && validElement element && decide (value.toNat ≤ 1)) then s.refuse .badField
  else
    match s.findItem item with
    | none => s.refuse .noSuchItem
    | some i =>
      match i.findElement element.toNat with
      | none => s.refuse .noSuchElement
      | some x => (s.modElement item x.id fun y => { y with ready := value == 1 }).done []

/-! ### The commands -/

/-- LOAD ITEM, code 0x01 (R11). -/
def execLoadItem (item : ItemId) (duration hardOut : BitVec 24) (basis : Byte) (anchor : ItemId) (s : State) :
    Host.Outcome State Fault Refusal :=
  .next (s.request 0x01 (State.loadItem item duration hardOut basis anchor))

/-- AMEND ITEM, code 0x02 (R12). -/
def execAmendItem (item : ItemId) (duration : BitVec 24) (action : Byte) (hardOut : BitVec 24) (basis : Byte)
    (s : State) : Host.Outcome State Fault Refusal :=
  .next (s.request 0x02 (State.amendItem item duration action hardOut basis))

/-- MOVE ITEM, code 0x03 (R13). -/
def execMoveItem (item anchor : ItemId) (s : State) : Host.Outcome State Fault Refusal :=
  .next (s.request 0x03 (State.moveItem item anchor))

/-- DELETE ITEM, code 0x04 (R14). -/
def execDeleteItem (item : ItemId) (s : State) : Host.Outcome State Fault Refusal :=
  .next (s.request 0x04 (State.deleteItem item))

/-- LOAD ELEMENT, code 0x05 (R15, R16). -/
def execLoadElement (item : ItemId) (element anchor : Byte) (offset : BitVec 16) (preRoll needsReady target : Byte)
    (duration : BitVec 16) (takeOff : Byte) (s : State) : Host.Outcome State Fault Refusal :=
  .next (s.request 0x05 (State.loadElement item element anchor offset preRoll needsReady target duration takeOff))

/-- DELETE ELEMENT, code 0x06 (R17). -/
def execDeleteElement (item : ItemId) (element : Byte) (s : State) : Host.Outcome State Fault Refusal :=
  .next (s.request 0x06 (State.deleteElement item element))

/-- SET READY, code 0x07 (R7). -/
def execSetReady (item : ItemId) (element value : Byte) (s : State) : Host.Outcome State Fault Refusal :=
  .next (s.request 0x07 (State.setReady item element value))

/-- FLOAT, code 0x08 (R18). -/
def execFloatRequest (item : ItemId) (s : State) : Host.Outcome State Fault Refusal :=
  .next (s.request 0x08 (State.floatEdit item))

/-- RESTORE, code 0x09 (R18). -/
def execRestoreRequest (item : ItemId) (s : State) : Host.Outcome State Fault Refusal :=
  .next (s.request 0x09 (State.restoreEdit item))

end Sys2Proof.Machine
end

