-- ==== Sys2Proof/Machine/Requests.lean ====
section
/-! DEFINITION. The requests that act beyond the run list: SEND, TAKE NEXT, STANDBY NEXT, SET CONTROL, SET TIME, CALL,
the acknowledgements and the reporting (chapters 7, 8 and 10), and the transfers PORT_READ and BAD_REQUEST_FRAME. -/

namespace Sys2Proof.Machine

/-! ### SEND (R119, R190) -/

/-- A forced-option byte is 0 or 1 (R190). -/
def validForced (b : Byte) : Bool := decide (b.toNat ≤ 1)

/-- The address of a SEND lies in its range (R119): a role mask is not 0, a station number is 1 … 30 and not the own
number. -/
def State.validAddress (s : State) (mode address : Byte) : Bool :=
  if mode = 0 then address != 0
  else mode == 1 && decide (1 ≤ address.toNat ∧ address.toNat ≤ 30 ∧ address.toNat ≠ s.pcu.ownNumber)

/-- The kind's own limits on the address of a SEND (R119). -/
def kindAddress (k : Kind) (mode address : Byte) : Bool :=
  match k with
  | .poll => mode == 1
  | .cue => mode == 1 || address == floorMask
  | .attention => mode == 1 || address == directorMask
  | _ => true

/-- The carried duration that a SEND of a TAKE gives (R30, R190): 0xFFFFFF for KEEP, any other value above 262,143
clamped.  So says R190; check 1 of R119, with the acceptance test of R120, would refuse such a value BAD_FIELD (DESIGN CHOICE,
unsafe; log entry 44). -/
def carriedOf (d : BitVec 24) : Option Nat := if d = noValue24 then none else some (clampDuration d)

/-- The body fields of a SEND lie in the ranges that the kind's acceptance test checks (R119), but for the carried duration
of a TAKE, which is clamped (log entry 44). -/
def validSendBody (k : Kind) (b : List Byte) : Bool :=
  match k with
  | .take | .standby | .hold | .resume | .stretch | .sweep | .drop | .float | .restore => validItem (field16 b 0)
  | .cue => validItem (field16 b 0) && decide ((byteAt b 2).toNat ≤ autoStage.toNat)
  | .attention => (Reason.ofCode (byteAt b 0)).isSome && reportableItem (field16 b 1)
  | .clear | .poll | .lockout | .release => true
  | .status | .announce | .claim => false

/-- The kind of a SEND whose fields all pass check 1 of R119; absent for BAD_FIELD. -/
def State.sendKind (s : State) (kind mode address forced : Byte) (body : List Byte) : Option Kind :=
  match Kind.ofCode kind.toNat with
  | none => none
  | some k =>
    if sendLength k = some body.length ∧ s.validAddress mode address ∧ kindAddress k mode address ∧
        validForced forced ∧ validSendBody k body then some k
    else none

/-- The frame that a SEND of a kind other than TAKE submits (R119, R189). -/
def sendPayload (k : Kind) (b : List Byte) : Payload :=
  let item := field16 b 0
  match k with
  | .take => .take item 0 0
  | .clear => .clear
  | .standby => .standby item
  | .hold => .hold item
  | .resume => .resume item
  | .stretch => .stretch item (field16 b 2).toInt
  | .cue => .cue item (byteAt b 2)
  | .sweep => .sweep item
  | .attention => .attention ((Reason.ofCode (byteAt b 0)).getD .operatorCall) (field16 b 1)
  | .drop => .drop item
  | .float => .float item
  | .restore => .restore item
  | .poll | .status | .announce | .claim => .poll
  | .lockout => .lockout
  | .release => .release

/-- The effect of a completed SEND on the sending station (R19, R42, R72, R152). -/
def State.sendEffect (address : Address) (p : Payload) (s : State) : State :=
  let own := s.pcu.ownNumber
  match p with
  | .clear => s.applyClear
  | .standby i => s.applyStandby i own
  | .hold i => s.applyHold i
  | .resume i => s.applyResume i
  | .stretch i d => s.applyEdit (.stretch d) own i
  | .cue i st => if s.hasRole floorBit then s.applyCue i st else s
  | .drop i => s.applyEdit .drop own i
  | .float i => s.applyEdit .float own i
  | .restore i => s.applyEdit .restore own i
  | .poll => s.setPcu { s.pcu with poll := .queued address.value.toNat }
  | .take .. | .sweep _ | .attention .. | .status _ | .lockout | .release | .announce .. | .claim .. => s

/-- The sequence number in a SEND's response, there only for an acknowledged kind (R119): an optional value, behind its
presence byte (R190).  A guarded TAKE, which has no number yet, gives none (DEDUCED, unsafe; log entry 48). -/
def sequenceField (q : Option Byte) : List Byte := beByteOption q

/-- A SEND of a TAKE whose fields are good, at an ACTIVE station (R30 to R33). -/
def State.sendTake (a : Address) (forced : Bool) (b : List Byte) (s : State) : Reply :=
  let item := field16 b 0
  if s.tke.guarded.isSome then ⟨s.ignoreTake .sweeping item, .busy, []⟩
  else
    let r := s.startTake item .send forced
      { address := a, lead := (byteAt b 2).toNat, carried := carriedOf (field24 b 3) }
    match r.2 with
    | .queueFull => r.1.refuse .queueFull
    | .sweeping => r.1.done (sequenceField none)
    | .made q => r.1.done (sequenceField (some q))

/-- A SEND of a frame other than a TAKE (R119 checks 3 and 4, and the local effect). -/
def State.sendFrame (a : Address) (p : Payload) (s : State) : Reply :=
  if p.kind = .poll ∧ s.pcu.poll ≠ .idle then s.refuse .busy
  else
    let r := s.submit p a .equipmentPort
    match r.2 with
    | .queueBusy => r.1.refuse .queueBusy
    | .queueFull => r.1.refuse .queueFull
    | .admitted q => (r.1.sendEffect a p).done (sequenceField q)

/-- SEND (R119). -/
def State.sendRequest (kind mode address forced : Byte) (body : List Byte) (s : State) : Reply :=
  match s.sendKind kind mode address forced body with
  | none => s.refuse .badField
  | some k =>
    if !s.isActive then s.refuse .notActive
    else if k = .take then s.sendTake ⟨mode == 1, address⟩ (forced == 1) body
    else s.sendFrame ⟨mode == 1, address⟩ (sendPayload k body)

/-! ### TAKE NEXT, STANDBY NEXT, SET CONTROL, SET TIME and CALL -/

/-- TAKE NEXT (R30 to R33). -/
def State.takeNextRequest (forced : Byte) (s : State) : Reply :=
  if !validForced forced then s.refuse .badField
  else if !s.isActive then s.refuse .notActive
  else if s.tke.guarded.isSome then ⟨s.ignoreTake .sweeping 0, .busy, []⟩
  else
    match s.nextItem with
    | none => s.refuse .noSuchItem
    | some i =>
      let r := s.startTake i .takeNext (forced == 1) s.ownTerms
      if r.2 = .queueFull then r.1.refuse .queueFull else r.1.done []

/-- STANDBY NEXT (R42). -/
def State.standbyNextRequest (s : State) : Reply :=
  if !s.isActive then s.refuse .notActive
  else
    match s.nextWaiting with
    | none => s.refuse .noSuchItem
    | some i =>
      let r := s.submit (.standby i) toAll .takeEngine
      if r.2.isAdmitted then (r.1.applyStandby i r.1.pcu.ownNumber).done [] else r.1.refuse .queueFull

/-- SET CONTROL (R46, R47). -/
def State.setControlRequest (value : Byte) (s : State) : Reply :=
  if value = 0 then (s.localRelease .request).done []
  else if value = 1 then
    ⟨s.localRequest .request, if s.tke.control = .remoteLocked then .locked else .done, []⟩
  else s.refuse .badField

/-- SET TIME held until the next frame pulse (R53, R168): the port is WORKING. -/
def State.holdTime (t : Nat) (s : State) : State :=
  (s.setFck { s.fck with pendingTime := some t }).setEqp { s.eqp with port := .working, inProgress := some 0x0E }

/-- SET TIME (R53): a ToD of D or more is refused at once. -/
def State.setTimeRequest (t : Nat) (s : State) : State :=
  if s.portTaking = .taken ∧ t < s.day then s.holdTime t
  else s.request 0x0E fun u => u.refuse .badField

/-- CALL (R129).  An item ID of 65,535 is BAD_FIELD also at a station that is not ACTIVE (DEDUCED, unsafe: R129 gives the
two results no order; log entry 38). -/
def State.callRequest (item : ItemId) (s : State) : Reply :=
  if !reportableItem item then s.refuse .badField
  else if !s.isActive then s.refuse .notActive
  else
    let r := s.submit (.attention .operatorCall item) toDirectors .equipmentPort
    if r.2.isAdmitted then r.1.done [] else r.1.refuse .queueFull

/-! ### The attention list, the events and the flags -/

/-- ACK ATTENTION (R154). -/
def State.ackAttentionRequest (sender reason : Byte) (s : State) : Reply :=
  if 30 < sender.toNat then s.refuse .badField
  else if sender = 0 then (s.setPcu { s.pcu with attention := [] }).done []
  else
    match Reason.ofCode reason with
    | none => s.refuse .badField
    | some r =>
      if s.pcu.attention.any (AttentionRecord.isFor sender.toNat r) then
        (s.setPcu { s.pcu with
          attention := s.pcu.attention.filter fun a => !a.isFor sender.toNat r }).done []
      else s.refuse .noSuchItem

/-- FETCH EVENTS (R173). -/
def State.fetchEventsRequest (most : Byte) (s : State) : Reply :=
  if most.toNat = 0 ∨ 8 < most.toNat then s.refuse .badField
  else
    let out := s.eqp.fifo.take most.toNat
    let rest := s.eqp.fifo.drop most.toNat
    (s.setEqp { s.eqp with fifo := rest }).done
      (be 1 out.length ++ out.flatMap EventRecord.bytes ++ be 1 rest.length)

/-- The five group bits in a byte (R190). -/
def groupByte (g : BitVec 5) : Byte := g.setWidth 8

/-- The eighteen flags in three bytes (R190). -/
def flagBytes (f : BitVec 18) : List Byte := be 3 f.toNat

/-- The fields of FETCH SUMMARY (R177). -/
def EquipmentPort.summary (e : EquipmentPort) : List Byte :=
  [groupByte e.groups] ++ flagBytes e.flags ++ [groupByte e.enables] ++ be 1 e.fifo.length ++ be 1 e.overflows ++
    be 1 e.overruns

/-- FETCH SUMMARY (R177): the group flags and the overrun count are cleared, and ATN falls. -/
def State.fetchSummaryRequest (s : State) : Reply :=
  (s.setEqp { s.eqp with groups := 0, overruns := 0 }.driveAtn).done s.eqp.summary

/-- The reporting state after ACK FLAGS names `f` (R178). -/
def EquipmentPort.ack (f : BitVec 18) (e : EquipmentPort) : EquipmentPort :=
  let e' := { e with
    flags := e.flags &&& ~~~ f
    overflows := if f.getLsbD SourceFlag.eventOverflow.bit then 0 else e.overflows }
  if f.getLsbD SourceFlag.events.bit && !e.fifo.isEmpty then e'.raise .events else e'

/-- ACK FLAGS (R178). -/
def State.ackFlagsRequest (flags : BitVec 24) (s : State) : Reply :=
  if 2 ^ 18 ≤ flags.toNat then s.refuse .badField
  else
    let e := s.eqp.ack (flags.setWidth 18)
    (s.setEqp e).done (flagBytes e.flags ++ [groupByte e.groups] ++ beBool e.atn)

/-- SET GROUP ENABLES (R176). -/
def State.setEnablesRequest (enables : Byte) (s : State) : Reply :=
  if 32 ≤ enables.toNat then s.refuse .badField
  else
    let e := { s.eqp with enables := enables.setWidth 5 }.driveAtn
    (s.setEqp e).done ([groupByte e.enables] ++ beBool e.atn)

/-! ### The commands -/

/-- SEND, code 0x0A (R119). -/
def execSend (kind mode address forced : Byte) (body : List Byte) (s : State) : Host.Outcome State Fault Refusal :=
  .next (s.request 0x0A (State.sendRequest kind mode address forced body))

/-- TAKE NEXT, code 0x0B (R30). -/
def execTakeNext (forced : Byte) (s : State) : Host.Outcome State Fault Refusal :=
  .next (s.request 0x0B (State.takeNextRequest forced))

/-- STANDBY NEXT, code 0x0C (R42). -/
def execStandbyNext (s : State) : Host.Outcome State Fault Refusal :=
  .next (s.request 0x0C State.standbyNextRequest)

/-- SET CONTROL, code 0x0D (R46). -/
def execSetControl (value : Byte) (s : State) : Host.Outcome State Fault Refusal :=
  .next (s.request 0x0D (State.setControlRequest value))

/-- SET TIME, code 0x0E (R53). -/
def execSetTime (tod : BitVec 24) (s : State) : Host.Outcome State Fault Refusal :=
  .next (s.setTimeRequest tod.toNat)

/-- CALL, code 0x0F (R129). -/
def execCall (item : ItemId) (s : State) : Host.Outcome State Fault Refusal :=
  .next (s.request 0x0F (State.callRequest item))

/-- ACK ATTENTION, code 0x16 (R154). -/
def execAckAttention (sender reason : Byte) (s : State) : Host.Outcome State Fault Refusal :=
  .next (s.request 0x16 (State.ackAttentionRequest sender reason))

/-- FETCH EVENTS, code 0x17 (R173). -/
def execFetchEvents (most : Byte) (s : State) : Host.Outcome State Fault Refusal :=
  .next (s.request 0x17 (State.fetchEventsRequest most))

/-- FETCH SUMMARY, code 0x18 (R177). -/
def execFetchSummary (s : State) : Host.Outcome State Fault Refusal :=
  .next (s.request 0x18 State.fetchSummaryRequest)

/-- ACK FLAGS, code 0x19 (R178). -/
def execAckFlags (flags : BitVec 24) (s : State) : Host.Outcome State Fault Refusal :=
  .next (s.request 0x19 (State.ackFlagsRequest flags))

/-- SET GROUP ENABLES, code 0x1A (R176). -/
def execSetGroupEnables (enables : Byte) (s : State) : Host.Outcome State Fault Refusal :=
  .next (s.request 0x1A (State.setEnablesRequest enables))

/-- PORT_READ (R190): a read transfer of `count` bytes. -/
def execPortRead (count : Nat) (s : State) : Host.Outcome State Fault Refusal :=
  .next (s.setEqp (s.eqp.read count))

/-- BAD_REQUEST_FRAME (R169): a transfer that spells no request is refused BAD_FIELD under its code as received; a
transfer that does spell one, or a read, is no such frame. -/
def execBadRequestFrame (bytes : List Byte) (s : State) : Host.Outcome State Fault Refusal :=
  .next (if isBadRequest bytes then s.request (byteAt bytes 0) fun t => t.refuse .badField else s)

end Sys2Proof.Machine
end

