-- ==== Sys2Proof/Machine/Reads.lean ====
section
/-! DEFINITION. The requests that read: READ ITEM, READ TIMING, READ PEERS, READ SWEEP, READ POLL, READ ATTENTION, with
the layouts of their responses by R190's rules (log entry 20). -/

namespace Sys2Proof.Machine

/-- An optional group of values: a presence byte, then `n` bytes, sent as 0 when it is absent (R190). -/
def beGroup (n : Nat) (l : Option (List Byte)) : List Byte :=
  match l with
  | some b => 1 :: b
  | none => 0 :: List.replicate n 0

/-! ### READ ITEM (R23) -/

/-- The fields of an element (R4, R23). -/
def Element.bytes (e : Element) : List Byte :=
  be 1 e.id ++ [e.anchor.code] ++ be 2 e.offset ++ be 1 e.preRoll ++ beBool e.needsReady ++ beBool e.ready ++
    [e.target.code] ++ be 2 e.duration ++ [e.takeOff.code, e.state.code] ++ beCountOption e.primeFrame ++
    beOption 4 e.remainder ++ be 1 e.late

/-- The fields of an item, less its elements (R2, R23). -/
def Item.bytes (i : Item) : List Byte :=
  beItem i.id ++ be 3 i.duration ++ [i.state.code] ++ beOption 3 i.hardOut ++ [i.basis.code] ++
    beCountOption i.airStart ++ beOption 4 i.actual ++ beBool i.lateMark ++ be 1 i.lateFrames ++ beBool i.held

/-- The position of an item in the list, from 1 (R1). -/
def positionOf (id : ItemId) (l : List Item) : Nat := l.findIdx (·.id == id) + 1

/-- The response fields of READ ITEM for an item of the list (R23). -/
def State.itemFields (s : State) (i : Item) : List Byte :=
  be 1 (positionOf i.id s.rls.items) ++ be 1 s.rls.items.length ++ i.bytes ++ beBool (s.passed i) ++
    be 1 i.elements.length ++ i.elements.flatMap Element.bytes

/-- READ ITEM (R23): selector 0 for an item ID, 1 for a position. -/
def State.readItemRequest (selector : Byte) (value : BitVec 16) (s : State) : Reply :=
  if selector = 0 then
    if !validItem value then s.refuse .badField
    else
      match s.findItem value with
      | none => s.refuse .noSuchItem
      | some i => s.done (s.itemFields i)
  else if selector = 1 then
    if value.toNat = 0 ∨ Config.maxItems < value.toNat then s.refuse .badField
    else
      match s.rls.items[value.toNat - 1]? with
      | none => s.refuse .noSuchItem
      | some i => s.done (s.itemFields i)
  else s.refuse .badField

/-! ### READ TIMING (R58, R76, R100, R167, R170) -/

/-- The Frame Clock's part (R58). -/
def State.clockFields (s : State) : List Byte :=
  beCount s.fck.count ++ beOption 3 s.tod ++ beOption 3 s.fck.offset ++
    [s.fck.status.code, s.fck.takeInput.level.code, s.fck.forceInput.level.code, s.fck.localInput.level.code]

/-- The timing result, less the back-times (R76). -/
def TimingResult.bytes (r : TimingResult) : List Byte :=
  let v := r.segment
  [r.kind.code] ++ beItem r.item ++ beOption 4 r.elapsed ++ be 3 r.remaining ++ beBool r.uncertain ++ beBool r.held ++
    [r.status.code] ++ beItemOption (v.map (·.hardOutItem)) ++ beOption 3 (v.map (·.hardOut)) ++
    beOption 3 (v.map (·.target)) ++ beOption 3 (v.map (·.sum)) ++ beOver (v.map (·.overUnder)) ++
    beBool (v.any (·.behind)) ++ beOption 3 (v.map (·.requiredEnd)) ++ be 3 r.toEnd ++ beOver r.countdown ++
    [r.stage.code]

/-- The bytes of a timing result. -/
def timingResultLength : Nat := 43

/-- The back-times of the segment held (R68). -/
def TimingComputer.backTimes (t : TimingComputer) : List BackTime :=
  match t.result.bind (·.segment) with
  | some v => v.backTimes
  | none => []

/-- One back-time entry (R76). -/
def BackTime.bytes (b : BackTime) : List Byte := beItem b.item ++ be 3 b.tod ++ beBool b.negative

/-- The page of back-times from index `k`: entries k to k + 7 (R76). -/
def TimingComputer.page (k : Nat) (t : TimingComputer) : List BackTime := (t.backTimes.drop (k - 1)).take 8

/-- The Timing Computer's part (R76). -/
def TimingComputer.bytes (k : Nat) (t : TimingComputer) : List Byte :=
  beGroup timingResultLength (t.result.map TimingResult.bytes) ++ be 1 t.backTimes.length ++
    beGroup 3 (t.cueOverride.map fun o => beItem o.1 ++ [o.2.code]) ++ [t.stage.code] ++ beBool t.lw ++ beBool t.lf ++
    beBool t.lo ++ beBool t.overAlarm ++ be 1 (t.page k).length ++ (t.page k).flatMap BackTime.bytes

/-- One fire line: mode, state, element and end frame (R100); the element is an item ID, 0 for none, and an element ID
behind its presence byte (R190). -/
def State.lineFields (s : State) (n : Nat) : List Byte :=
  let l := s.fsc.line n
  beBool (s.isLevel n) ++ [l.code] ++ match l with
    | .inactive => beItem 0 ++ beOption 1 none ++ beCountOption none
    | .pulsing i e _ => beItem i ++ beOption 1 (some e) ++ beCountOption none
    | .held i e f => beItem i ++ beOption 1 (some e) ++ beCountOption (some f)

/-- The Fire Scheduler's part (R100). -/
def State.fireFields (s : State) : List Byte :=
  be 1 s.fsc.queue.length ++ be 1 s.fsc.free ++
    beGroup 5 (s.fsc.queue.head?.map fun e => beCount e.due ++ [e.action.code]) ++ beBool s.fsc.latch ++
    (List.range 8).flatMap s.lineFields

/-- The entry in flight that READ TIMING names (R167), which speaks of one: with a CLAIM in flight beside another entry
it is the other one, and the CLAIM when it is in flight alone (DESIGN CHOICE, unsafe; log entry 42). -/
def State.shownFlight (s : State) : Option (QueueName × QueueEntry) :=
  match s.flightEntry with
  | some r => some r
  | none => (s.obq.routine.find? (·.inFlight)).map (.routine, ·)

/-- The code of a queue (R188). -/
def QueueName.code : QueueName → Byte
  | .air => 0 | .routine => 1

/-- The Outbound Queues' part (R167). -/
def State.queueFields (s : State) : List Byte :=
  be 1 s.obq.air.length ++ be 1 s.obq.routine.length ++ [s.obq.backpressure.code] ++ be 1 s.obq.ringPointer ++
    [s.obq.sequence] ++
    beGroup 4 (s.shownFlight.map fun r => be 1 r.2.payload.kind.code ++ [r.1.code] ++ beByteOption r.2.sequence)

/-- The on-air pointer (R170): kind, item, carried duration, S. -/
def State.onAirFields (s : State) : List Byte :=
  match s.tke.onAir with
  | .none => [OnAirKind.none.code] ++ beItem 0 ++ beOption 3 none ++ beCountOption none
  | .own i => [OnAirKind.own.code] ++ beItem i ++ beOption 3 none ++ beCountOption ((s.findItem i).bind (·.airStart))
  | .foreign i d S => [OnAirKind.foreign.code] ++ beItem i ++ beOption 3 (some d) ++ beCountOption (some S)

/-- A pending take: the seven values of R27 (R170). -/
def PendingTake.bytes (p : PendingTake) : List Byte :=
  beItem p.item ++ beCount p.air ++ beCount p.arrival ++ be 1 p.sender ++ [p.sequence] ++ be 3 p.carried ++ beBool p.late

/-- The guard state (R170): the guarded item and origin are there while SWEEPING. -/
def TakeEngine.guardFields (t : TakeEngine) : List Byte :=
  beBool t.guarded.isSome ++ beItemOption (t.guarded.map (·.item)) ++ beByteOption (t.guarded.map (·.origin.code))

/-- The Take Engine's part (R170). -/
def State.takeFields (s : State) : List Byte :=
  s.onAirFields ++ beItemOption s.tke.standby ++ beGroup 16 (s.tke.pendingTake.map PendingTake.bytes) ++
    beItemOption s.tke.lastAired ++ [s.tke.control.code] ++ s.tke.guardFields

/-- READ TIMING (R170): a page index of 0 or above 95 is refused; the response is of one moment, so a frame pulse under
way is taken to its end first (log entry 3). -/
def State.readTimingRequest (start : Byte) (s : State) : Reply :=
  if start.toNat = 0 ∨ 95 < start.toNat then s.refuse .badField
  else
    let s := s.settle
    s.done (s.clockFields ++ s.tmc.bytes start.toNat ++ s.fireFields ++ s.queueFields ++ s.takeFields)

/-! ### READ PEERS, READ SWEEP, READ POLL, READ ATTENTION (R150 to R154) -/

/-- The values of a peer entry (R146). -/
def Peer.bytes (p : Peer) : List Byte :=
  [p.presence.code] ++ beByteOption p.roles ++ beOption 6 (p.identity.map BitVec.toNat) ++
    beByteOption (p.control.map Control.code) ++ beItemOption p.onAir ++ beItemOption p.standby ++
    beByteOption p.lastSequence ++ be 1 p.misses ++ beCountOption p.lastHeard

/-- One of the three answers for a number (R150): OWN, NO_ENTRY, or the entry's values. -/
def PeerCensus.positionFields (p : PeerCensus) (k : Nat) : List Byte :=
  if k = p.ownNumber then [0]
  else match p.peer k with
    | none => [1]
    | some e => 2 :: e.bytes

/-- The fields of READ PEERS (R150). -/
def State.peerFields (s : State) : List Byte :=
  be 1 s.pcu.ownNumber ++ be 6 s.pcu.identity.toNat ++ [s.values.roles, s.pcu.mode.code] ++
    beOption 1 s.pcu.candidate ++ be 1 s.pcu.tries ++ be 1 s.pcu.previous ++
    stationNumbers.flatMap s.pcu.positionFields

/-- A sweep result (R151). -/
def SweepResult.bytes (r : SweepResult) : List Byte :=
  beItem r.item ++ [r.outcome.code] ++ be 4 r.expected.toNat ++ be 4 r.ready.toNat ++ be 4 r.notReady.toNat ++
    beCount r.count

/-- The poll state (R152): state, target, stage, timeout frame. -/
def PollState.bytes : PollState → List Byte
  | .idle => [0] ++ beOption 1 none ++ beByteOption none ++ beCountOption none
  | .queued t => [1] ++ beOption 1 (some t) ++ beByteOption (some 0) ++ beCountOption none
  | .awaiting t f => [1] ++ beOption 1 (some t) ++ beByteOption (some 1) ++ beCountOption (some f)

/-- A poll result (R152). -/
def PollResult.bytes (r : PollResult) : List Byte :=
  be 1 r.target ++ beBool r.body.isNone ++ [r.cause.code] ++ beCount r.count ++
    beGroup 12 (r.body.map StatusBody.bytes)

/-- A record of the attention list (R153). -/
def AttentionRecord.bytes (a : AttentionRecord) : List Byte :=
  be 1 a.sender ++ [a.reason.code] ++ beItem a.item ++ be 1 a.count ++ beCount a.first

/-! ### The commands -/

/-- READ ITEM, code 0x10 (R23). -/
def execReadItem (selector : Byte) (value : BitVec 16) (s : State) : Host.Outcome State Fault Refusal :=
  .next (s.request 0x10 (State.readItemRequest selector value))

/-- READ TIMING, code 0x11 (R170). -/
def execReadTiming (start : Byte) (s : State) : Host.Outcome State Fault Refusal :=
  .next (s.request 0x11 (State.readTimingRequest start))

/-- READ PEERS, code 0x12 (R150). -/
def execReadPeers (s : State) : Host.Outcome State Fault Refusal :=
  .next (s.request 0x12 fun t => t.done t.peerFields)

/-- READ SWEEP, code 0x13 (R151). -/
def execReadSweep (s : State) : Host.Outcome State Fault Refusal :=
  .next (s.request 0x13 fun t => t.done (beGroup 19 (t.pcu.sweep.map SweepResult.bytes)))

/-- READ POLL, code 0x14 (R152). -/
def execReadPoll (s : State) : Host.Outcome State Fault Refusal :=
  .next (s.request 0x14 fun t => t.done (t.pcu.poll.bytes ++ beGroup 20 (t.pcu.pollResult.map PollResult.bytes)))

/-- READ ATTENTION, code 0x15 (R154). -/
def execReadAttention (s : State) : Host.Outcome State Fault Refusal :=
  .next (s.request 0x15 fun t =>
    t.done (be 1 t.pcu.attention.length ++ t.pcu.attention.flatMap AttentionRecord.bytes))

end Sys2Proof.Machine
end

