-- ==== Sys2Proof/Machine/Dispatch.lean ====
section
/-! DEFINITION. The one dispatch of the commands to their meanings. -/

namespace Sys2Proof.Machine

/-- The meaning of a command: one arm for each row of the table. -/
def exec (i : Instr) (s : State) : Host.Outcome State Fault Refusal :=
  match i with
  | .powerOn resetHeld => Sys2Proof.Machine.execPowerOn resetHeld s
  | .resetActive => Sys2Proof.Machine.execResetActive s
  | .restartEnd image => Sys2Proof.Machine.execRestartEnd image s
  | .framePulse p => Sys2Proof.Machine.execFramePulse p s
  | .refLost p => Sys2Proof.Machine.execRefLost p s
  | .internalPulse p => Sys2Proof.Machine.execInternalPulse p s
  | .refBack sinceInternal p => Sys2Proof.Machine.execRefBack sinceInternal p s
  | .setTimeApplied => Sys2Proof.Machine.execSetTimeApplied s
  | .takeExecution => Sys2Proof.Machine.execTakeExecution s
  | .primeExecution => Sys2Proof.Machine.execPrimeExecution s
  | .goExecution => Sys2Proof.Machine.execGoExecution s
  | .pulseEnd line => Sys2Proof.Machine.execPulseEnd line s
  | .levelHoldEnd line => Sys2Proof.Machine.execLevelHoldEnd line s
  | .pollTimeout => Sys2Proof.Machine.execPollTimeout s
  | .claimResubmit => Sys2Proof.Machine.execClaimResubmit s
  | .lineIdle bits => Sys2Proof.Machine.execLineIdle bits s
  | .lineStuck bits => Sys2Proof.Machine.execLineStuck bits s
  | .sendOpportunity => Sys2Proof.Machine.execSendOpportunity s
  | .contentionLost bits => Sys2Proof.Machine.execContentionLost bits s
  | .collision => Sys2Proof.Machine.execCollision s
  | .attemptSent slots => Sys2Proof.Machine.execAttemptSent slots s
  | .frameNotHeard f => Sys2Proof.Machine.execFrameNotHeard f s
  | .takeFrame f => Sys2Proof.Machine.execTakeFrame f s
  | .clearFrame f => Sys2Proof.Machine.execClearFrame f s
  | .standbyFrame f => Sys2Proof.Machine.execStandbyFrame f s
  | .holdFrame f => Sys2Proof.Machine.execHoldFrame f s
  | .resumeFrame f => Sys2Proof.Machine.execResumeFrame f s
  | .stretchFrame f => Sys2Proof.Machine.execStretchFrame f s
  | .cueFrame f => Sys2Proof.Machine.execCueFrame f s
  | .sweepFrame f => Sys2Proof.Machine.execSweepFrame f s
  | .attentionFrame f => Sys2Proof.Machine.execAttentionFrame f s
  | .dropFrame f => Sys2Proof.Machine.execDropFrame f s
  | .floatFrame f => Sys2Proof.Machine.execFloatFrame f s
  | .restoreFrame f => Sys2Proof.Machine.execRestoreFrame f s
  | .pollFrame f => Sys2Proof.Machine.execPollFrame f s
  | .statusFrame f => Sys2Proof.Machine.execStatusFrame f s
  | .lockoutFrame f => Sys2Proof.Machine.execLockoutFrame f s
  | .releaseFrame f => Sys2Proof.Machine.execReleaseFrame f s
  | .announceFrame f => Sys2Proof.Machine.execAnnounceFrame f s
  | .claimFrame f => Sys2Proof.Machine.execClaimFrame f s
  | .portRead count => Sys2Proof.Machine.execPortRead count s
  | .badRequestFrame bytes => Sys2Proof.Machine.execBadRequestFrame bytes s
  | .loadItem item duration hardOut basis anchor => Sys2Proof.Machine.execLoadItem item duration hardOut basis anchor s
  | .amendItem item duration action hardOut basis => Sys2Proof.Machine.execAmendItem item duration action hardOut basis s
  | .moveItem item anchor => Sys2Proof.Machine.execMoveItem item anchor s
  | .deleteItem item => Sys2Proof.Machine.execDeleteItem item s
  | .loadElement item element anchor offset preRoll needsReady target duration takeOff => Sys2Proof.Machine.execLoadElement item element anchor offset preRoll needsReady target duration takeOff s
  | .deleteElement item element => Sys2Proof.Machine.execDeleteElement item element s
  | .setReady item element value => Sys2Proof.Machine.execSetReady item element value s
  | .floatRequest item => Sys2Proof.Machine.execFloatRequest item s
  | .restoreRequest item => Sys2Proof.Machine.execRestoreRequest item s
  | .send kind mode address forced body => Sys2Proof.Machine.execSend kind mode address forced body s
  | .takeNext forced => Sys2Proof.Machine.execTakeNext forced s
  | .standbyNext => Sys2Proof.Machine.execStandbyNext s
  | .setControl value => Sys2Proof.Machine.execSetControl value s
  | .setTime tod => Sys2Proof.Machine.execSetTime tod s
  | .call item => Sys2Proof.Machine.execCall item s
  | .readItem selector value => Sys2Proof.Machine.execReadItem selector value s
  | .readTiming start => Sys2Proof.Machine.execReadTiming start s
  | .readPeers => Sys2Proof.Machine.execReadPeers s
  | .readSweep => Sys2Proof.Machine.execReadSweep s
  | .readPoll => Sys2Proof.Machine.execReadPoll s
  | .readAttention => Sys2Proof.Machine.execReadAttention s
  | .ackAttention sender reason => Sys2Proof.Machine.execAckAttention sender reason s
  | .fetchEvents most => Sys2Proof.Machine.execFetchEvents most s
  | .fetchSummary => Sys2Proof.Machine.execFetchSummary s
  | .ackFlags flags => Sys2Proof.Machine.execAckFlags flags s
  | .setGroupEnables enables => Sys2Proof.Machine.execSetGroupEnables enables s
  | .readRestart => Sys2Proof.Machine.execReadRestart s
  | .restartRequest kind => Sys2Proof.Machine.execRestartRequest kind s
  | .endFieldDominantBit => Sys2Proof.Machine.execEndFieldDominantBit s

end Sys2Proof.Machine
end

