-- ==== Sys2Proof/Machine/Step.lean ====
section
/-! DEFINITION. One step of the block: the command at the front of the queue, or the tick of an empty one. -/

namespace Sys2Proof.Machine

/-- The front part of a pulse under way taken, and the pulse gone on with; nothing when no pulse is (log entry 3). -/
def State.tick (s : State) : State :=
  match s.running, s.pulseRest with
  | true, p :: l => ((s.runPart p).setPulseRest l).advance
  | _, _ => s

/-- One step (log entries 1 and 3): the command at the front of the queue runs on the state with the queue's rest; on an
empty queue the block goes on with the frame pulse under way, or idles. -/
def step (s : State) : Host.Outcome State Fault Refusal :=
  match s.pending with
  | [] => .next s.tick
  | c :: rest => exec c (s.setPending rest)

/-- The state with the command that a word spells at the front of its queue; as it is when the word spells none. -/
def State.withFetchWord (s : State) (nbits w : Nat) : State :=
  match decodeTableWord nbits w with
  | none => s
  | some c => s.setPending (c :: s.pending)

end Sys2Proof.Machine
end

