-- ==== Sys2Proof/WellFormed.lean ====
section
/-! DEFINITION. The commands that the world can bring: the checks on a command's operands that the manual's layouts and
ranges give (R104, R106, R111, R169, R182, R190).  No meaning assumes them. -/

namespace Sys2Proof
open Machine

/-- A fire line is one of FL0 to FL7 (00_scope). -/
def wfLine (n : Nat) : Bool := decide (n < 8)

/-- A roll-call set names stations alone: bits 0 and 31 are 0 (R188). -/
def wfSlots (t : StationSet) : Bool := stationsOnly t == t

/-- A frame as read carries as many body bytes as its length field gives (R104). -/
def wfWire (w : Wire) : Bool := w.body.length == w.length.toNat

/-- A frame as received (R104, R111). -/
def wfFrame (f : RxFrame) : Bool := wfWire f.wire && wfSlots f.slots

/-- A frame that is heard as one of kind `k` (R106). -/
def wfHeard (k : Kind) (f : RxFrame) : Bool := wfFrame f && f.wire.heardAs k

/-- The memory answers with at most the 32 bytes of the one read (R182). -/
def wfImage (b : List Byte) : Bool := decide (b.length ≤ 32)

/-- A SEND carries the bytes that its kind takes (R190). -/
def wfSend (kind : Byte) (body : List Byte) : Bool := sendTakes kind (4 + body.length) && decide (4 + body.length ≤ 255)

/-- A command whose operands lie in the ranges that the manual's layouts give. -/
def Instr.wf : Instr → Bool
  | .restartEnd b => wfImage b
  | .pulseEnd n => wfLine n
  | .levelHoldEnd n => wfLine n
  | .attemptSent t => wfSlots t
  | .frameNotHeard f => wfFrame f && !f.wire.heard
  | .takeFrame f => wfHeard .take f
  | .clearFrame f => wfHeard .clear f
  | .standbyFrame f => wfHeard .standby f
  | .holdFrame f => wfHeard .hold f
  | .resumeFrame f => wfHeard .resume f
  | .stretchFrame f => wfHeard .stretch f
  | .cueFrame f => wfHeard .cue f
  | .sweepFrame f => wfHeard .sweep f
  | .attentionFrame f => wfHeard .attention f
  | .dropFrame f => wfHeard .drop f
  | .floatFrame f => wfHeard .float f
  | .restoreFrame f => wfHeard .restore f
  | .pollFrame f => wfHeard .poll f
  | .statusFrame f => wfHeard .status f
  | .lockoutFrame f => wfHeard .lockout f
  | .releaseFrame f => wfHeard .release f
  | .announceFrame f => wfHeard .announce f
  | .claimFrame f => wfHeard .claim f
  | .badRequestFrame b => isBadRequest b
  | .send k _ _ _ body => wfSend k body
  | .powerOn _ | .resetActive | .framePulse _ | .refLost _ | .internalPulse _ | .refBack _ _ | .setTimeApplied
  | .takeExecution | .primeExecution | .goExecution | .pollTimeout | .claimResubmit | .lineIdle _ | .lineStuck _
  | .sendOpportunity | .contentionLost _ | .collision | .portRead _ | .loadItem _ _ _ _ _ | .amendItem _ _ _ _ _
  | .moveItem _ _ | .deleteItem _ | .loadElement _ _ _ _ _ _ _ _ _ | .deleteElement _ _ | .setReady _ _ _
  | .floatRequest _ | .restoreRequest _ | .takeNext _ | .standbyNext | .setControl _ | .setTime _ | .call _
  | .readItem _ _ | .readTiming _ | .readPeers | .readSweep | .readPoll | .readAttention | .ackAttention _ _
  | .fetchEvents _ | .fetchSummary | .ackFlags _ | .setGroupEnables _ | .readRestart | .restartRequest _
  | .endFieldDominantBit => true

end Sys2Proof
end

