-- ==== Sys2Proof/Safety.lean ====
section
/-! DEFINITION. What a sound state of the block is (the invariants of the manual's tables), and the words in which the
statements speak of a command that is taken and of a frame that is heard. -/

namespace Sys2Proof.Machine

/-! ### Sound states -/

/-- The run list keeps R1: at most 96 items, no ID twice, at most 256 elements in all, and in each item elements with IDs
1 … 16 in strictly rising order. -/
def State.runListSound (s : State) : Prop :=
  s.rls.items.length ≤ 96 ∧ (s.rls.items.map (·.id)).Nodup ∧ poolUsed s.rls.items ≤ 256 ∧
    ∀ i ∈ s.rls.items, (i.elements.map (·.id)).Pairwise (· < ·) ∧ ∀ e ∈ i.elements, 1 ≤ e.id ∧ e.id ≤ 16

/-- The pointers agree with the item states (R3, R25, R26): no ID twice; an item is STANDBY exactly when the standby slot
holds it, ON_AIR exactly when the on-air pointer is OWN for it; the slot, an OWN pointer and the last-aired position
name items of the list. -/
def State.pointersSound (s : State) : Prop :=
  (s.rls.items.map (·.id)).Nodup ∧
    (∀ i ∈ s.rls.items, (i.state = .standby ↔ s.tke.standby = some i.id) ∧ (i.state = .onAir ↔ s.tke.onAir = .own i.id)) ∧
    (∀ id, s.tke.standby = some id → id ∈ s.rls.items.map (·.id)) ∧
    (∀ id, s.tke.onAir = .own id → id ∈ s.rls.items.map (·.id)) ∧
    (∀ id, s.tke.lastAired = some id → id ∈ s.rls.items.map (·.id))

/-- Every bounded store keeps its bound (R79, R92, R146, R153, R156, R168, R172). -/
def State.capacitySound (s : State) : Prop :=
  s.fsc.queue.length ≤ 32 ∧ s.fsc.lines.length = 8 ∧ s.obq.air.length ≤ 8 ∧ s.obq.routine.length ≤ 16 ∧
    s.pcu.peers.length = 30 ∧ s.pcu.attention.length ≤ 16 ∧ s.eqp.fifo.length ≤ 32 ∧ s.eqp.overruns ≤ 255 ∧
    s.eqp.overflows ≤ 255

/-- The mode is ACTIVE exactly while the own number is 1 … 30, and the own number is 0 otherwise; a candidate is
1 … 30 (R139). -/
def State.stationSound (s : State) : Prop :=
  ((s.pcu.mode = .active ∧ 1 ≤ s.pcu.ownNumber ∧ s.pcu.ownNumber ≤ 30) ∨
      (s.pcu.mode ≠ .active ∧ s.pcu.ownNumber = 0)) ∧
    ∀ k, s.pcu.candidate = some k → 1 ≤ k ∧ k ≤ 30

/-- ATN is asserted exactly while an enabled group holds a set group flag (R175). -/
def State.atnSound (s : State) : Prop :=
  s.eqp.atn = true ↔ ∃ g : Group, s.eqp.enables.getLsbD g.bit = true ∧ s.eqp.groups.getLsbD g.bit = true

/-- The lamps follow the effective stage on a FLOOR station and are off on any other; during a restart the stage is
CLEAR and they are off (R74, R78, R181). -/
def State.lampsSound (s : State) : Prop :=
  (s.hasRole floorBit = true →
      (s.tmc.lw = true ↔ s.tmc.stage = .wrap ∨ s.tmc.stage = .over) ∧ (s.tmc.lf = true ↔ s.tmc.stage = .final) ∧
        (s.tmc.lo = true ↔ s.tmc.stage = .out ∨ s.tmc.stage = .over)) ∧
    (s.hasRole floorBit = false → s.tmc.lw = false ∧ s.tmc.lf = false ∧ s.tmc.lo = false) ∧
    (s.running = false → s.tmc.stage = .clear ∧ s.tmc.lw = false ∧ s.tmc.lf = false ∧ s.tmc.lo = false)

/-- The backpressure state agrees with the count of the routine queue (R165); the thresholds are ordered (R184); during a
restart the routine queue is empty (R167). -/
def State.backpressureSound (s : State) : Prop :=
  s.values.lower < s.values.upper ∧
    (s.obq.backpressure = .admitting → s.obq.routine.length < s.values.upper) ∧
    (s.obq.backpressure = .busy → s.values.lower < s.obq.routine.length) ∧
    (s.running = false → s.obq.routine = [] ∧ s.obq.backpressure = .admitting)

/-! ### The bytes of frames and responses in the statements (R188 to R192)

Each layout is a row of fields, a width in bytes and a value.  Where a response's rule gives no layout, the row is the model's
reading of R190 (log entry 20). -/

/-- A field of a layout: its width in bytes and its value. -/
abbrev ByteField := Nat × Nat

/-- The bytes of a row of fields, each field most significant byte first (R188). -/
def fieldBytes (l : List ByteField) : List Byte :=
  l.flatMap fun f => (List.range f.1).map fun k => BitVec.ofNat 8 (f.2 / 256 ^ (f.1 - 1 - k))

/-- A value that is set or clear (R190). -/
def flagField (b : Bool) : ByteField := (1, if b then 1 else 0)

/-- A value of a named list, coded from 0 in the list's order (R188). -/
def codeField {α : Type} [BEq α] (l : List α) (x : α) : ByteField := (1, l.idxOf x)

/-- An optional value: its presence byte, and its bytes, 0 when it is absent (R190). -/
def optionFields (n : Nat) (v : Option Nat) : List ByteField := [(1, if v.isSome then 1 else 0), (n, v.getD 0)]

/-- U or C, signed in 3 bytes, 0x800000 when it is absent (R77, R190). -/
def overField (v : Option Int) : ByteField := (3, match v with | none => 0x800000 | some c => (c % 16777216).toNat)

/-- The lists whose codes several layouts carry (R188). -/
def controlList : List Control := [.remote, .localControl, .remoteLocked, .localLocked]

def reasonList : List Reason := [.notReady, .prerollShort, .fireOverflow, .operatorCall]

def stageList : List Stage := [.clear, .wrap, .final, .out, .over]

def modeList : List Mode := [.claiming, .active, .listenOnly]

def presenceList : List Presence := [.unknown, .present, .absent]

def pollCauseList : List PollCause := [.none, .dropped, .notAccepted, .timeout]

/-- The eighteen kinds in the order of their codes (R189). -/
def kindList : List Kind :=
  [.take, .clear, .standby, .hold, .resume, .stretch, .cue, .sweep, .attention, .drop, .float, .restore, .poll, .status,
    .lockout, .release, .announce, .claim]

/-- The body of a STATUS (R189). -/
def StatusBody.fields (b : StatusBody) : List ByteField :=
  [(1, b.control.toNat), (2, b.onAir.toNat), (2, b.standby.toNat), (2, b.pending.toNat), (1, b.fireCount.toNat),
    (3, b.overUnder.toNat), (1, b.groups.toNat)]

/-- The body of a frame of each kind (R189), without the sequence number that opens that of an acknowledged one; the lead and
the late flag of a TAKE are those of an attempt that starts at `now` (R34). -/
def Payload.fields (now : Count) : Payload → List ByteField
  | .take i d A =>
    [(2, i.toNat), (1, (Count.diff now A).toNat), flagField (decide (Count.diff now A < 0)), (3, d)]
  | .clear | .poll | .lockout | .release => []
  | .standby i | .hold i | .resume i | .sweep i | .drop i | .float i | .restore i => [(2, i.toNat)]
  | .stretch i d => [(2, i.toNat), (2, (d % 65536).toNat)]
  | .cue i c => [(2, i.toNat), (1, c.toNat)]
  | .attention r i => [codeField reasonList r, (2, i.toNat)]
  | .status b => b.fields
  | .announce id r c a sb => [(6, id.toNat), (1, r.toNat), codeField controlList c, (2, a.toNat), (2, sb.toNat)]
  | .claim _ id r => [(6, id.toNat), (1, r.toNat)]

/-- The fields of an element (R4) in READ ITEM (R23). -/
def Element.fields (e : Element) : List ByteField :=
  [(1, e.id), codeField [.start, .ending] e.anchor, (2, e.offset), (1, e.preRoll), flagField e.needsReady, flagField e.ready,
    (1, match e.target with | .line n => n | .event => 8 | .both n => 16 + n), (2, e.duration),
    codeField [.cancel, .force] e.takeOff,
    codeField [.idle, .primed, .scheduled, .held, .fired, .skipped, .suppressed] e.state] ++
  optionFields 4 (e.primeFrame.map BitVec.toNat) ++ optionFields 4 e.remainder ++ [(1, e.late)]

/-- The response of READ ITEM (R23) for the item `x`, the `n`-th of a list of `count`, with the passed indication. -/
def Item.fields (n count : Nat) (passed : Bool) (x : Item) : List ByteField :=
  [(1, n), (1, count), (2, x.id.toNat), (3, x.duration),
    codeField [.waiting, .standby, .onAir, .aired, .floated] x.state] ++
  optionFields 3 x.hardOut ++ [codeField [.item, .segment] x.basis] ++ optionFields 4 (x.airStart.map BitVec.toNat) ++
  optionFields 4 x.actual ++ [flagField x.lateMark, (1, x.lateFrames), flagField x.held, flagField passed,
    (1, x.elements.length)] ++ x.elements.flatMap Element.fields

/-- The item `x` is passed (R1, R23): WAITING, and before the item of the current position. -/
def State.isPassed (s : State) (x : Item) : Prop :=
  x.state = .waiting ∧ ∃ l c r, s.rls.items = l ++ c :: r ∧ x ∈ l ∧
    (s.tke.onAir = .own c.id ∨ (∀ i, s.tke.onAir ≠ .own i) ∧ s.tke.lastAired = some c.id)

/-- The Frame Clock's part of READ TIMING (R58). -/
def State.clockPart (s : State) : List ByteField :=
  [(4, s.fck.count.toNat)] ++ optionFields 3 (s.fck.offset.map fun o => (s.fck.count.toNat + o) % s.day) ++
  optionFields 3 s.fck.offset ++ codeField [.external, .freeRun] s.fck.status ::
    [s.fck.takeInput, s.fck.forceInput, s.fck.localInput].map fun i => codeField [.inactive, .active, .unsettled] i.level

/-- The timing result in READ TIMING (R76), 43 bytes. -/
def TimingResult.fields (r : TimingResult) : List ByteField :=
  let v := r.segment
  [codeField [.none, .own, .foreign] r.kind, (2, r.item.toNat)] ++ optionFields 4 r.elapsed ++
  [(3, r.remaining), flagField r.uncertain, flagField r.held, codeField [.closed, .opened, .noTime] r.status,
    (2, match v with | some w => w.hardOutItem.toNat | none => 0)] ++
  optionFields 3 (v.map (·.hardOut)) ++ optionFields 3 (v.map (·.target)) ++ optionFields 3 (v.map (·.sum)) ++
  [overField (v.map (·.overUnder)), flagField (v.any (·.behind))] ++ optionFields 3 (v.map (·.requiredEnd)) ++
  [(3, r.toEnd), overField r.countdown, codeField stageList r.stage]

/-- The Timing Computer's part of READ TIMING from the start index `k` (R76): entries k to k + 7 of the back-time list. -/
def TimingComputer.part (k : Nat) (t : TimingComputer) : List ByteField :=
  let entries : List BackTime := match t.result with
    | some r => (match r.segment with | some v => v.backTimes | none => [])
    | none => []
  let page := (entries.drop (k - 1)).take 8
  (match t.result with | none => [(1, 0), (43, 0)] | some r => (1, 1) :: r.fields) ++ [(1, entries.length)] ++
  (match t.cueOverride with
    | none => [(1, 0), (2, 0), (1, 0)]
    | some (i, st) => [(1, 1), (2, i.toNat), codeField stageList st]) ++
  [codeField stageList t.stage, flagField t.lw, flagField t.lf, flagField t.lo, flagField t.overAlarm, (1, page.length)] ++
  page.flatMap fun b => [(2, b.item.toNat), (3, b.tod), flagField b.negative]

/-- The Fire Scheduler's part of READ TIMING (R100): each of FL0 to FL7 with its mode, its state, its element and the end
frame of a hold. -/
def State.firePart (s : State) : List ByteField :=
  [(1, s.fsc.queue.length), (1, 32 - s.fsc.queue.length)] ++
  (match s.fsc.queue with
    | [] => [(1, 0), (4, 0), (1, 0)]
    | g :: _ => [(1, 1), (4, g.due.toNat), codeField [.prime, .go] g.action]) ++ flagField s.fsc.latch ::
  (List.range 8).flatMap fun n => flagField (s.values.lineModes.getLsbD n) ::
    match s.fsc.lines.getD n .inactive with
    | .inactive => [(1, 0), (2, 0)] ++ optionFields 1 none ++ optionFields 4 none
    | .pulsing i e _ => [(1, 1), (2, i.toNat)] ++ optionFields 1 (some e) ++ optionFields 4 none
    | .held i e f => [(1, 2), (2, i.toNat)] ++ optionFields 1 (some e) ++ optionFields 4 (some f.toNat)

/-- The Outbound Queues' part of READ TIMING (R167); of a CLAIM in flight beside another entry the other one is named (log
entry 42). -/
def State.queuePart (s : State) : List ByteField :=
  let named : List (Nat × QueueEntry) := s.obq.air.map ((0, ·)) ++
    (s.obq.routine.filter fun e => !e.isClaim).map ((1, ·)) ++ (s.obq.routine.filter (·.isClaim)).map ((1, ·))
  [(1, s.obq.air.length), (1, s.obq.routine.length), codeField [.admitting, .busy] s.obq.backpressure,
    (1, s.obq.ringPointer), (1, s.obq.sequence.toNat)] ++
  match named.find? fun x => x.2.flight.isSome with
  | none => [(1, 0), (4, 0)]
  | some (q, e) => [(1, 1), codeField kindList e.payload.kind, (1, q)] ++ optionFields 1 (e.sequence.map BitVec.toNat)

/-- The Take Engine's part of READ TIMING (R170). -/
def State.takePart (s : State) : List ByteField :=
  (match s.tke.onAir with
    | .none => [(1, 0), (2, 0)] ++ optionFields 3 none ++ optionFields 4 none
    | .own i => [(1, 1), (2, i.toNat)] ++ optionFields 3 none ++
        optionFields 4 (((s.findItem i).bind (·.airStart)).map BitVec.toNat)
    | .foreign i d S => [(1, 2), (2, i.toNat)] ++ optionFields 3 (some d) ++ optionFields 4 (some S.toNat)) ++
  [(2, (s.tke.standby.getD 0).toNat)] ++
  (match s.tke.pendingTake with
    | none => [(1, 0), (16, 0)]
    | some p => [(1, 1), (2, p.item.toNat), (4, p.air.toNat), (4, p.arrival.toNat), (1, p.sender), (1, p.sequence.toNat),
        (3, p.carried), flagField p.late]) ++
  [(2, (s.tke.lastAired.getD 0).toNat), codeField controlList s.tke.control] ++
  match s.tke.guarded with
  | none => [(1, 0), (2, 0)] ++ optionFields 1 none
  | some g => [(1, 1), (2, g.item.toNat)] ++
      optionFields 1 (some ([Origin.takeInput, .takeNext, .send].idxOf g.origin))

/-- The response of READ PEERS (R150): the own part, then for each of 1 … 30 OWN (0), NO_ENTRY (1) or the entry's values. -/
def State.peerPart (s : State) : List ByteField :=
  [(1, s.pcu.ownNumber), (6, s.pcu.identity.toNat), (1, s.values.roles.toNat), codeField modeList s.pcu.mode] ++
  optionFields 1 s.pcu.candidate ++ [(1, s.pcu.tries), (1, s.pcu.previous)] ++
  (List.range 30).flatMap fun n =>
    if n + 1 = s.pcu.ownNumber then [(1, 0)]
    else match s.pcu.peer (n + 1) with
      | none => [(1, 1)]
      | some e => [(1, 2), codeField presenceList e.presence] ++
          optionFields 1 (e.roles.map BitVec.toNat) ++ optionFields 6 (e.identity.map BitVec.toNat) ++
          optionFields 1 (e.control.map controlList.idxOf) ++
          [(2, (e.onAir.getD 0).toNat), (2, (e.standby.getD 0).toNat)] ++
          optionFields 1 (e.lastSequence.map BitVec.toNat) ++ [(1, e.misses)] ++
          optionFields 4 (e.lastHeard.map BitVec.toNat)

/-- The response of READ SWEEP (R151). -/
def PeerCensus.sweepPart (p : PeerCensus) : List ByteField :=
  match p.sweep with
  | none => [(1, 0), (19, 0)]
  | some r => [(1, 1), (2, r.item.toNat), codeField [.sent, .dropped] r.outcome, (4, r.expected.toNat), (4, r.ready.toNat),
      (4, r.notReady.toNat), (4, r.count.toNat)]

/-- The response of READ POLL (R152): the state, with the target, the stage and the timeout frame of an outstanding poll; then
the result, its outcome ANSWERED (0) or NO_ANSWER (1). -/
def PeerCensus.pollPart (p : PeerCensus) : List ByteField :=
  (match p.poll with
    | .idle => (1, 0) :: optionFields 1 none ++ optionFields 1 none ++ optionFields 4 none
    | .queued k => (1, 1) :: optionFields 1 (some k) ++ optionFields 1 (some 0) ++ optionFields 4 none
    | .awaiting k f => (1, 1) :: optionFields 1 (some k) ++ optionFields 1 (some 1) ++ optionFields 4 (some f.toNat)) ++
  match p.pollResult with
  | none => [(1, 0), (20, 0)]
  | some r => [(1, 1), (1, r.target), flagField r.body.isNone,
        codeField pollCauseList r.cause, (4, r.count.toNat)] ++
      match r.body with
      | none => [(1, 0), (12, 0)]
      | some b => (1, 1) :: b.fields

/-- The response of READ ATTENTION (R154). -/
def PeerCensus.attentionPart (p : PeerCensus) : List ByteField :=
  (1, p.attention.length) :: p.attention.flatMap fun a =>
    [(1, a.sender), codeField reasonList a.reason, (2, a.item.toNat), (1, a.count), (4, a.first.toNat)]

/-- The response of READ RESTART (R187, R192): the record, with the values in the image's order. -/
def RestartRecord.fields (r : RestartRecord) : List ByteField :=
  let v := r.values
  [codeField [.power, .pin, .requestCold, .requestWarm] r.cause, codeField [.cold, .warm] r.kind,
    codeField [.ok, .clamped, .erased, .noMemory, .bad] r.outcome, codeField modeList r.startMode, (3, r.clamped.toNat)] ++
  [v.preferred, v.roles.toNat, v.lineRate, v.frameRate, v.takeLead, v.retryLimit, v.absentLimit, if v.guard then 1 else 0,
    v.guardRoles.toNat, v.ring.toNat, v.upper, v.lower, v.wrapTime, v.finalTime, v.overTolerance, v.overAlarmTime,
    v.pollTimeout, v.lineModes.toNat, v.inputEnables.toNat, v.groupEnables.toNat].map ((1, ·))

/-- The code of an event and its fields in the order of R191. -/
def Event.layout : Event → Nat × List ByteField
  | .prime i e p g => (1, [(2, i.toNat), (1, e), (1, p)] ++ optionFields 4 (g.map BitVec.toNat))
  | .go i e l o => (2, [(2, i.toNat), (1, e), (1, l), codeField [.none, .pulsed, .merged, .held, .restarted] o])
  | .release i e => (3, [(2, i.toNat), (1, e)])
  | .takeDone i own a m l out =>
    (4, [(2, i.toNat), flagField own, (4, a.toNat), flagField m, (1, l), (2, out.toNat)])
  | .takeSuperseded i a j b k c =>
    (5, [(2, i.toNat), (4, a.toNat), (2, j.toNat), (4, b.toNat), (1, k),
      codeField [.superseded, .clear, .deleted, .dropped] c])
  | .takeIgnored r i =>
    (6, [codeField [.notActive, .localControl, .sweeping, .noNext, .queueFull, .itemGone, .cleared] r, (2, i.toNat)])
  | .guardRefused i m n => (7, [(2, i.toNat), flagField m, (4, n.toNat)])
  | .standbySet i k o => (8, [(2, i.toNat), (1, k), codeField [.set, .unchanged, .onAir, .notHeld] o])
  | .editHeard kd k i d o =>
    (9, [codeField kindList kd, (1, k), (2, i.toNat), (2, (d % 65536).toNat),
      codeField [.applied, .noChange, .noSuchItem, .refusedOnAir] o])
  | .sendResult kd q a n d m o =>
    (10, [codeField kindList kd, (1, q.toNat), flagField a.byNumber, (1, a.value.toNat), (1, n), (4, d.toNat), (4, m.toNat),
      codeField [.complete, .incomplete, .purged] o])
  | .sweepResult i o e r n =>
    (11, [(2, i.toNat), codeField [.sent, .dropped] o, (4, e.toNat), (4, r.toNat), (4, n.toNat)])
  | .pollResult k c b =>
    (12, [(1, k), flagField b.isNone, codeField pollCauseList c] ++ match b with | none => [(12, 0)] | some x => x.fields)
  | .attentionIn k r i o n =>
    (13, [(1, k), codeField reasonList r, (2, i.toNat), codeField [.counted, .new, .notRecorded] o, (1, n)])
  | .peerChange k old new c r id =>
    (14, [(1, k), codeField presenceList old, codeField presenceList new, codeField [.heard, .answered, .claimed, .missed] c,
      (1, (if r.isSome then 1 else 0) + if id.isSome then 2 else 0), (1, (r.getD 0).toNat), (6, (id.getD 0).toNat)])
  | .cueStage i old new c forced =>
    (15, [(2, i.toNat), codeField stageList old, codeField stageList new, overField c, flagField forced])
  | .controlChange old new c k =>
    (16, [codeField controlList old, codeField controlList new,
      codeField [.input, .request, .lockout, .release, .refusedLocked] c, (1, k)])
  | .refLost a b => (17, [(4, a.toNat), (4, b.toNat)])
  | .refBack a n => (18, [(4, a.toNat), (4, n.toNat)])
  | .numberConflict k kd => (19, [(1, k), codeField kindList kd])
  | .pulseMerged n i e j f => (20, [(1, n), (2, i.toNat), (1, e), (2, j.toNat), (1, f)])

/-- The 20 bytes of an event record (R191): the code, the count of posting, and the fields padded with 0. -/
def EventRecord.layout (r : EventRecord) : List Byte :=
  let f := fieldBytes r.event.layout.2
  fieldBytes [(1, r.event.layout.1), (4, r.count.toNat)] ++ f ++ List.replicate (15 - f.length) 0

/-! ### Restarts in the statements -/

/-- The filter of an operator input after a restart (R59): no previous sample; UNSETTLED when the input is enabled, INACTIVE
when it is not. -/
def InputFilter.restarted (enabled : Bool) (f : InputFilter) : Prop :=
  f.previous = none ∧ f.level = if enabled then .unsettled else .inactive

/-- Every block but the Run List Store, the Peer and Census Unit's previous number, the last-aired position and the
Start-up Loader is in its restart state (R49, R59, R78, R101, R117, R155, R167, R179, R181). -/
def State.inRestartStates (t : State) : Prop :=
  t.tke.onAir = .none ∧ t.tke.standby = none ∧ t.tke.pendingTake = none ∧ t.tke.guarded = none ∧
    t.tke.control = .remote ∧
    t.fck.count = 0 ∧ t.fck.offset = none ∧ t.fck.pendingTime = none ∧ t.fck.status = .external ∧
    t.fck.takeInput.restarted (t.values.inputEnables.getLsbD 0) ∧
    t.fck.forceInput.restarted (t.values.inputEnables.getLsbD 1) ∧
    t.fck.localInput.restarted (t.values.inputEnables.getLsbD 2) ∧
    t.tmc.result = none ∧ t.tmc.cueOverride = none ∧ t.tmc.stage = .clear ∧ t.tmc.lw = false ∧ t.tmc.lf = false ∧
    t.tmc.lo = false ∧ t.tmc.overAlarm = false ∧
    t.fsc.queue = [] ∧ t.fsc.lines = List.replicate 8 .inactive ∧ t.fsc.latch = false ∧
    t.lne.phase = .gap 0 ∧ t.lne.part = .none ∧ t.lne.dominantRun = 0 ∧ t.lne.suspended = false ∧ t.lne.rx = none ∧
    t.lne.tx = none ∧ t.lne.read = 0 ∧
    t.pcu.ownNumber = 0 ∧ t.pcu.tries = 0 ∧ t.pcu.claimWaiting = false ∧ t.pcu.peers = List.replicate 30 none ∧ t.pcu.sweep = none ∧
    t.pcu.poll = .idle ∧ t.pcu.pollResult = none ∧ t.pcu.attention = [] ∧
    t.obq.air = [] ∧ t.obq.routine = [] ∧ t.obq.ringPointer = 0 ∧ t.obq.sequence = 0 ∧
    t.obq.backpressure = .admitting ∧
    t.eqp.port = .starting ∧ t.eqp.inProgress = none ∧ t.eqp.response = none ∧ t.eqp.fifo = [] ∧
    t.eqp.overflows = 0 ∧ t.eqp.overruns = 0 ∧ t.eqp.flags = 0 ∧ t.eqp.groups = 0 ∧ t.eqp.atn = false ∧
    t.pulseRest = []

/-- What a warm restart keeps of an element, and what it clears (R24). -/
def Element.warmKept (e f : Element) : Prop :=
  f.id = e.id ∧ f.anchor = e.anchor ∧ f.offset = e.offset ∧ f.preRoll = e.preRoll ∧ f.needsReady = e.needsReady ∧
    f.ready = e.ready ∧ f.target = e.target ∧ f.duration = e.duration ∧ f.takeOff = e.takeOff ∧
    f.state = .idle ∧ f.primeFrame = none ∧ f.remainder = none ∧ f.late = 0

/-- What a warm restart keeps of an item, and what it changes (R24). -/
def Item.warmKept (i j : Item) : Prop :=
  j.id = i.id ∧ j.duration = i.duration ∧ j.hardOut = i.hardOut ∧ j.basis = i.basis ∧ j.airStart = i.airStart ∧
    (i.state = .onAir → j.state = .aired ∧ j.actual = none) ∧
    (i.state = .standby → j.state = .waiting) ∧
    (i.state ≠ .onAir → j.actual = i.actual) ∧ (i.state ≠ .onAir → i.state ≠ .standby → j.state = i.state) ∧
    j.lateMark = false ∧ j.lateFrames = 0 ∧ j.held = false ∧
    j.elements.length = i.elements.length ∧
    ∀ (n : Nat) (e : Element), i.elements[n]? = some e → ∃ f, j.elements[n]? = some f ∧ e.warmKept f

/-! ### Pulses and events in the statements -/

/-- The event stands in the FIFO, or the FIFO is full (R172): nothing leaves it while a command runs, so a FIFO that has
room at the end has taken every event. -/
def State.posted (t : State) (ev : Event) : Prop := t.eqp.fifo.length < 32 → ⟨t.now, ev⟩ ∈ t.eqp.fifo

/-- The filter `g` that one sample leaves of `f` (R56): a disabled input is not sampled; an enabled one keeps the sample,
and its level becomes the sample's when the sample before agreed. -/
def InputFilter.sampled (enabled sample : Bool) (f g : InputFilter) : Prop :=
  (enabled = false → g = f) ∧
    (enabled = true →
      g.previous = some sample ∧ g.level = if f.previous = some sample then levelOf sample else f.level)

/-- The three inputs sampled by a pulse (R56). -/
def State.inputsSampled (s t : State) (p : Pulse) : Prop :=
  s.fck.takeInput.sampled (s.values.inputEnables.getLsbD 0) p.take t.fck.takeInput ∧
    s.fck.forceInput.sampled (s.values.inputEnables.getLsbD 1) p.force t.fck.forceInput ∧
    s.fck.localInput.sampled (s.values.inputEnables.getLsbD 2) p.localSw t.fck.localInput

/-- No recognised input transition waits among the parts of the pulse that are left. -/
def noHandOff (l : List PulsePart) : Prop := ∀ h, PulsePart.handOff h ∉ l

/-- The frame at which the GO of an element placed unprimed falls (R83, R84): `due` is the frame at which it belongs, `E`
the earliest frame of a PRIME, `p` its pre-roll. -/
def goFrame (p : Nat) (E due : Count) : Count :=
  if p = 0 then due else Count.later due (Count.later E (due - BitVec.ofNat 32 p) + BitVec.ofNat 32 p)

/-- The GO of the element `x` of the item `id` has reached the line it targets, if any, and its event, if any (R91 to R95):
`s` is the state before it. -/
def State.wentTo (s t : State) (id : ItemId) (x : Element) : Prop :=
  (x.target = .event → t.posted (.go id x.id x.late .none)) ∧
    ∀ n, x.target = .line n ∨ x.target = .both n →
      (s.isLevel n = true →
        t.fsc.line n = .held id x.id (s.now + BitVec.ofNat 32 (max x.duration 1)) ∧
        (x.target = .both n → t.posted (.go id x.id x.late
          (match s.fsc.line n with | .held _ _ _ => .restarted | _ => .held)))) ∧
      (∀ i e, s.isLevel n = false → s.fsc.line n = .pulsing i e s.now →
        t.fsc.line n = .pulsing i e s.now ∧ t.eqp.flag .pulseMerged = true ∧ t.posted (.pulseMerged n i e id x.id) ∧
        (x.target = .both n → t.posted (.go id x.id x.late .merged))) ∧
      (s.isLevel n = false → (∀ i e, s.fsc.line n ≠ .pulsing i e s.now) →
        t.fsc.line n = .pulsing id x.id s.now ∧ (x.target = .both n → t.posted (.go id x.id x.late .pulsed)))

/-- An element of the outgoing item `o` that has not fired (R38): SCHEDULED, PRIMED, HELD, or SUPPRESSED with a GO entry. -/
def State.hasNotFired (s : State) (o : ItemId) (e : Element) : Prop :=
  e.state = .scheduled ∨ e.state = .primed ∨ e.state = .held ∨
    e.state = .suppressed ∧ ∃ g ∈ s.fsc.queue, g.item = o ∧ g.element = e.id ∧ g.action = .go

/-- The take-off behaviour has acted on the element `e` of the outgoing item `o`, whose elements then are `l` (R38, R48):
one that has fired, or was skipped, is as it was; one that has not loses its entries and is SKIPPED by CANCEL, FIRED by FORCE,
or SUPPRESSED by FORCE in a LOCAL state. -/
def State.tookOff (s t : State) (o : ItemId) (l : List Element) (e : Element) : Prop :=
  (¬s.hasNotFired o e → e ∈ l) ∧
    (s.hasNotFired o e →
      (∀ g ∈ t.fsc.queue, ¬(g.item = o ∧ g.element = e.id)) ∧
      (e.takeOff = .cancel → { e with state := .skipped, primeFrame := none, remainder := none } ∈ l ∧
        (e.state = .primed → t.posted (.release o e.id))) ∧
      (e.takeOff = .force →
        (s.suppresses = true → { e with state := .suppressed, primeFrame := none, remainder := none } ∈ l) ∧
        (s.suppresses = false → { e with state := .fired, remainder := none } ∈ l ∧
          (e.target = .event → t.posted (.go o e.id e.late .none)))))

/-- The element fires at the take-off of its item `o` (R38) to the fire line `n`. -/
def State.forcedTo (s : State) (o : ItemId) (e : Element) (n : Nat) : Prop :=
  s.hasNotFired o e ∧ e.takeOff = .force ∧ s.suppresses = false ∧ (e.target = .line n ∨ e.target = .both n)

/-! ### The timing in the statements -/

/-- The counted items (R61): those after the current position, WAITING or STANDBY, in order. -/
def State.counts (s : State) (counted : List Item) : Prop :=
  (∀ i, s.tke.onAir ≠ .own i) ∧ s.tke.lastAired = none ∧
      counted = s.rls.items.filter (fun i => i.state == .waiting || i.state == .standby) ∨
    ∃ l c r, s.rls.items = l ++ c :: r ∧ (∀ y ∈ l, y.id ≠ c.id) ∧
      (s.tke.onAir = .own c.id ∨ (∀ i, s.tke.onAir ≠ .own i) ∧ s.tke.lastAired = some c.id) ∧
      counted = r.filter fun i => i.state == .waiting || i.state == .standby

/-- The hard out `H` of the item `id` ends the segment, which holds the counted items `seg` (R65): the on-air item's own, or
the first of the counted items. -/
def State.closesAt (s : State) (counted seg : List Item) (id : ItemId) (H : Nat) : Prop :=
  (∃ x, s.tke.onAir = .own x.id ∧ s.findItem x.id = some x ∧ x.hardOut = some H ∧ x.id = id ∧ seg = []) ∨
    (∀ x, s.tke.onAir = .own x.id → s.findItem x.id = some x → x.hardOut = none) ∧
      ∃ l x r, counted = l ++ x :: r ∧ (∀ y ∈ l, y.hardOut = none) ∧ x.hardOut = some H ∧ x.id = id ∧ seg = l ++ [x]

/-- The sum of the planned durations. -/
def plannedSum (l : List Item) : Nat := (l.map (·.duration)).sum

/-- The segment values at the time of day `tod` of a day of `D` frames, with `remaining` left on the air (R66 to R68). -/
def SegmentValues.fit (v : SegmentValues) (D tod remaining : Nat) (seg : List Item) (H : Nat) : Prop :=
  v.hardOut = H ∧ v.target < D ∧ (tod + v.target) % D = H % D ∧ v.sum = min 16777215 (plannedSum seg) ∧
    v.overUnder = max (-8388607) (min 8388607 ((remaining : Int) + plannedSum seg - v.target)) ∧
    (v.behind = true ↔ v.target < remaining + plannedSum seg) ∧
    v.requiredEnd < D ∧ (v.requiredEnd + plannedSum seg) % D = H % D ∧ v.backTimes.length = seg.length ∧
    ∀ (l r : List Item) (i : Item), seg = l ++ i :: r →
      ∃ b, v.backTimes[l.length]? = some b ∧ b.item = i.id ∧ b.tod < D ∧ (b.tod + plannedSum (i :: r)) % D = H % D ∧
        (b.negative = true ↔ v.target < plannedSum (i :: r))

/-- The computed stage of the countdown, by the thresholds W, Fn and To in frames (R71). -/
def Stage.fits (st : Stage) (W Fn To : Int) (c : Int) : Prop :=
  (W < c → st = .clear) ∧ (Fn < c → c ≤ W → st = .wrap) ∧ (0 < c → c ≤ Fn → st = .final) ∧ (-To < c → c ≤ 0 → st = .out) ∧
    (c ≤ -To → st = .over)

/-! ### The line in the statements -/

/-- The Line Engine stands between frames or in an end field, where bit times are counted (R103, R106). -/
def State.betweenFrames (s : State) : Prop := (∃ n, s.lne.phase = .gap n) ∨ ∃ k, s.lne.phase = .frame (some k)

/-- None of the bit times `bits` of a line between frames or in an end field is a dominant one read in IDLE: no start bit is
among them (R103). -/
def State.noStartBit (s : State) (bits : List Bool) : Prop :=
  ∀ l r, bits = l ++ true :: r → (s.lineBits l).lne.phase ≠ .idle

/-- An attempt of the entry `e` has begun at this bit time (R103 to R105): the station contends with a frame of the entry's
kind, sender, address and length, with the body that the entry's fields and its sequence number make and a right check, and the rest of the Line Engine is as it was. -/
def State.attempting (s t : State) (e : QueueEntry) : Prop :=
  ∃ w : Wire, t.lne = { s.lne with
      phase := .frame none, part := .contending, dominantRun := 0, rx := none, tx := some w, read := 0 } ∧
    w.kind.toNat = kindList.idxOf e.payload.kind ∧ w.urgency = BitVec.ofNat 3 e.payload.kind.urgency ∧
    w.sender = BitVec.ofNat 5 (match e.payload with | .claim k _ _ => k | _ => s.pcu.ownNumber) ∧
    w.byNumber = e.address.byNumber ∧
    w.address = (if e.address.byNumber then e.address.value &&& 0x1F else e.address.value) ∧
    w.length = BitVec.ofNat 4 e.payload.kind.bodyLength ∧ w.body = fieldBytes
      ((if e.payload.kind.acknowledged then [(1, (e.sequence.getD 0).toNat)] else []) ++ e.payload.fields s.now) ∧
    w.check = w.computed

/-- The entry as its first attempt leaves it (R114, R159): in flight, no attempt counted, nothing delivered. -/
def State.launched (s : State) (e : QueueEntry) : QueueEntry :=
  { e with flight := some { attempts := 0, expected := s.expectedSet e.address, delivered := 0 } }

/-- The station is driving an attempt of the entry `e`, no CLAIM, at the head of the queue `q`; `f` is what it keeps beside
it and `l` the queue behind it. -/
structure State.Drives (s : State) (q : QueueName) (e : QueueEntry) (f : Flight) (l : List QueueEntry) : Prop where
  running : s.running = true
  driving : s.driving = true
  noClaim : s.sendsClaim = false
  head : (match q with | .air => s.obq.air | .routine => s.obq.routine) = e :: l
  first : q = .routine → ∀ x ∈ s.obq.air, x.inFlight = false
  entry : e.isClaim = false
  flight : e.flight = some f

/-- The entry at the head of the queue `q` has left it, and `l` is left: the other queue, the ring and the counter stay, and
the backpressure state follows the routine queue's count (R161, R165). -/
def State.headDone (s t : State) (q : QueueName) (l : List QueueEntry) : Prop :=
  match q with
  | .air => t.obq = { s.obq with air := l }
  | .routine => t.obq = { s.obq with
      routine := l
      backpressure := match s.obq.backpressure with
        | .admitting => if s.values.upper ≤ l.length then .busy else .admitting
        | .busy => if l.length ≤ s.values.lower then .admitting else .busy }

/-- The entry at the head of the queue `q` has been rewritten as `e`, in front of `l`, and nothing else of the queues has
changed. -/
def State.headKept (s t : State) (q : QueueName) (e : QueueEntry) (l : List QueueEntry) : Prop :=
  match q with
  | .air => t.obq = { s.obq with air := e :: l }
  | .routine => t.obq = { s.obq with routine := e :: l }

/-- The Line Engine after an attempt that ended before its end: it listens on and drives nothing (R107, R109). -/
def State.listens (s t : State) : Prop := t.lne = { s.lne with part := .listening, tx := none, read := 0 }

/-- A station's attempt of its CLAIM for the candidate `k` is under way, behind the entries `a` of the routine queue and in
front of the entries `b` (R140, R159). -/
structure State.Claims (s : State) (k : Nat) (a : List QueueEntry) (e : QueueEntry) (b : List QueueEntry) (f : Flight) :
    Prop where
  running : s.running = true
  driving : s.driving = true
  claim : s.sendsClaim = true
  mode : s.pcu.mode = .claiming
  candidate : s.pcu.candidate = some k
  routine : s.obq.routine = a ++ e :: b
  first : ∀ x ∈ a, x.isClaim = false
  entry : ∃ id r, e.payload = .claim k id r
  flight : e.flight = some f

/-- The candidate `k` of the claim has been refused (R142); the routine queue held `rest` without the CLAIM. -/
def State.candidateRefused (s t : State) (k : Nat) (rest : List QueueEntry) : Prop :=
  t.pcu.tries = s.pcu.tries + 1 ∧ t.pcu.ownNumber = s.pcu.ownNumber ∧
    (30 ≤ s.pcu.tries + 1 →
      t.pcu.mode = .listenOnly ∧ t.pcu.candidate = none ∧ t.eqp.flag .claimFailed = true ∧ t.obq.routine = rest) ∧
    (s.pcu.tries + 1 < 30 →
      t.pcu.mode = .claiming ∧ t.pcu.candidate = some (if k = 30 then 1 else k + 1) ∧
        (rest.length < 16 → t.pcu.claimWaiting = false ∧
          t.obq.routine.map (fun e => (e.payload, e.address)) = rest.map (fun e => (e.payload, e.address)) ++
            [(.claim (if k = 30 then 1 else k + 1) s.pcu.identity s.values.roles,
              toNumber (if k = 30 then 1 else k + 1))]) ∧
        (16 ≤ rest.length → t.pcu.claimWaiting = true ∧ t.obq.routine = rest))

/-! ### Requests and frames in the statements -/

/-- The port takes the next request (R168). -/
def State.portReady (s : State) : Prop := s.running = true ∧ s.eqp.port = .idle

/-- The state offers a response with this code, result and fields (R168, R169). -/
def State.offers (t : State) (code : Byte) (r : Result) (fields : List Byte) : Prop :=
  t.eqp.port = .responding ∧ t.eqp.inProgress = none ∧ t.eqp.response = some (responseFrame code r fields)

/-- `t` is `s` but for the Equipment Port. -/
def State.sameButPort (s t : State) : Prop := t = s.setEqp t.eqp

/-- Of the ten blocks, the Frame Clock, the Line Engine, the Peer and Census Unit and the Start-up Loader stand as they
stood, and so do the model's own fields. -/
def State.sameOutside (s t : State) : Prop :=
  t.fck = s.fck ∧ t.lne = s.lne ∧ t.pcu = s.pcu ∧ t.sul = s.sul ∧ t.pulseRest = s.pulseRest ∧ t.pending = s.pending

/-- The result held is that of a recomputation from the state itself (R60). -/
def State.recomputed (t : State) : Prop := t.tmc.result = some t.computeTiming

/-- A heard frame of kind `kd` that addresses this station, ACTIVE, from another number (R106, R112). -/
structure State.Hears (s : State) (kd : Kind) (f : RxFrame) : Prop where
  receives : s.mayReceive = true
  heard : f.wire.heardAs kd = true
  active : s.pcu.mode = .active
  addressed : s.addressed f.wire = true
  other : f.wire.sender.toNat ≠ s.pcu.ownNumber

/-- The same, and the frame's sequence is not the last held for its sender (R113). -/
structure State.HearsNew (s : State) (kd : Kind) (f : RxFrame) : Prop where
  hears : s.Hears kd f
  new : ∀ p, s.pcu.peer f.wire.sender.toNat = some p → p.lastSequence ≠ some f.wire.sequence

/-- The frame addresses this station (R112 test 3): by its number; or by a role mask that is 0xFF or shares a role with it. -/
def State.isAddressed (s : State) (w : Wire) : Prop :=
  if w.byNumber then (w.address &&& 0x1F).toNat = s.pcu.ownNumber else w.address = 0xFF ∨ w.address &&& s.values.roles ≠ 0

/-- The bytes `n` and `n + 1` of a body name an item to be acted on (R118). -/
def namesItem (body : List Byte) (n : Nat) : Prop := field16 body n ≠ 0 ∧ field16 body n ≠ 0xFFFF

/-- The station is ready for the item `X` (R127): it is not under local control, and the item is not in its list, has no
element, or has every needs-ready element ready and as many free entries as its elements and its primable elements in all. -/
def State.isReadyFor (s : State) (X : ItemId) : Prop :=
  (s.tke.control = .remote ∨ s.tke.control = .remoteLocked) ∧
    ∀ x, s.findItem X = some x → x.elements = [] ∨
      (∀ e ∈ x.elements, e.needsReady = true → e.ready = true) ∧
        s.fsc.queue.length + x.elements.length + (x.elements.filter fun e => 0 < e.preRoll).length ≤ 32

/-- The acceptance test of each kind (R118, R120 to R138). -/
def State.passesTest (s : State) (w : Wire) : Kind → Prop
  | .sweep => namesItem w.body 0 ∧ s.isReadyFor (field16 w.body 0)
  | .take => namesItem w.body 1 ∧ (field24 w.body 5).toNat ≤ 262143
  | .clear | .lockout | .release => True
  | .standby | .hold | .resume | .stretch | .drop | .float | .restore => namesItem w.body 1
  | .cue => s.values.roles.getLsbD 6 = true ∧ namesItem w.body 1 ∧ (byteAt w.body 3).toNat ≤ 5
  | .attention => s.values.roles.getLsbD 0 = true ∧ (byteAt w.body 1).toNat ≤ 3 ∧ field16 w.body 2 ≠ 0xFFFF
  | .poll => w.byNumber = true
  | .status => (∃ f, s.pcu.poll = .awaiting w.sender.toNat f) ∧ (byteAt w.body 0).toNat ≤ 3 ∧ field16 w.body 1 ≠ 0xFFFF ∧
      field16 w.body 3 ≠ 0xFFFF ∧ field16 w.body 5 ≠ 0xFFFF ∧ (byteAt w.body 7).toNat ≤ 32
  | .announce => (byteAt w.body 7).toNat ≤ 3 ∧ field16 w.body 8 ≠ 0xFFFF ∧ field16 w.body 10 ≠ 0xFFFF
  | .claim => w.byNumber = true ∧ (w.address &&& 0x1F).toNat = w.sender.toNat ∧ w.sender.toNat = s.pcu.ownNumber

/-- The sequence number of the frame is the last held for its sender (R113). -/
def State.isRepeat (s : State) (w : Wire) : Prop :=
  ∃ p, s.pcu.peer w.sender.toNat = some p ∧ p.lastSequence = some (byteAt w.body 0)

/-- What a received frame leaves alone whatever it is, short of its own effect: the Frame Clock, the Start-up Loader, the
model's own fields, and the own number, mode and candidate. -/
def State.sameStation (s t : State) : Prop :=
  t.fck = s.fck ∧ t.sul = s.sul ∧ t.pulseRest = s.pulseRest ∧ t.pending = s.pending ∧
    t.pcu.ownNumber = s.pcu.ownNumber ∧ t.pcu.mode = s.pcu.mode ∧ t.pcu.candidate = s.pcu.candidate ∧
    t.pcu.identity = s.pcu.identity

/-- The command that brings a heard frame of a kind. -/
def frameCommand : Kind → RxFrame → Instr
  | .take, f => .takeFrame f
  | .clear, f => .clearFrame f
  | .standby, f => .standbyFrame f
  | .hold, f => .holdFrame f
  | .resume, f => .resumeFrame f
  | .stretch, f => .stretchFrame f
  | .cue, f => .cueFrame f
  | .sweep, f => .sweepFrame f
  | .attention, f => .attentionFrame f
  | .drop, f => .dropFrame f
  | .float, f => .floatFrame f
  | .restore, f => .restoreFrame f
  | .poll, f => .pollFrame f
  | .status, f => .statusFrame f
  | .lockout, f => .lockoutFrame f
  | .release, f => .releaseFrame f
  | .announce, f => .announceFrame f
  | .claim, f => .claimFrame f

/-- The entry of an answering or heard peer (R111, R147): PRESENT, no misses, last heard now. -/
def State.heardPeer (s t : State) (k : Nat) : Prop :=
  ∃ p, t.pcu.peer k = some p ∧ p.presence = .present ∧ p.misses = 0 ∧ p.lastHeard = some s.now

/-- The presence of peer `k` has become `new` for `cause` (R149): PEER_CHANGE is posted with the presence before and after it,
and with the roles and the identity of the entry `e`, absent without one, unless the presence is as it was. -/
def State.becomes (s t : State) (k : Nat) (new : Presence) (cause : PeerCause) (e : Option Peer) : Prop :=
  s.pcu.presence k ≠ new →
    t.posted (.peerChange k (s.pcu.presence k) new cause (e.bind (·.roles)) (e.bind (·.identity)))

/-- No PEER_CHANGE has been posted but for a presence that has changed, and each gives the change (R149). -/
def State.onlyTrueChanges (s t : State) : Prop :=
  ∀ r ∈ t.eqp.fifo, r ∉ s.eqp.fifo → ∀ k old new c ro id, r.event = .peerChange k old new c ro id →
    old = s.pcu.presence k ∧ new = t.pcu.presence k ∧ old ≠ new

/-- The guarded take `g` has been decided by a sweep result for the item `i` with the not-ready set `n` (R32, R33); `air` is
the air queue that the SWEEP has left.  A station that was not ACTIVE throughout counts as no longer ACTIVE (log entry 41). -/
def State.guardDecided (s t : State) (g : GuardedTake) (i : ItemId) (n : StationSet) (air : List QueueEntry) : Prop :=
  let ended : Prop := t.tke = { s.tke with guarded := none } ∧ t.obq = { s.obq with air := air }
  let ignored (r : IgnoreReason) : Prop := ended ∧ t.posted (.takeIgnored r g.item) ∧ t.eqp.flag .takeIgnored = true
  let left : Prop := s.pcu.mode ≠ .active ∨ g.lapsed = true
  let locally : Prop := g.origin = .takeInput ∧ (s.tke.control = .localControl ∨ s.tke.control = .localLocked)
  let gone : Prop := g.wasOwn = true ∧ s.findItem i = none
  let refused : Prop := ∃ k p r, 1 ≤ k ∧ k ≤ 30 ∧ inSet n k = true ∧ s.pcu.peer k = some p ∧ p.roles = some r ∧
    r &&& s.values.guardRoles ≠ 0
  (g.item ≠ i → ended ∧ t.posted (.guardRefused g.item true 0) ∧ t.eqp.flag .guardRefused = true) ∧
    (g.item = i → left → ignored .notActive) ∧
    (g.item = i → ¬left → locally → ignored .localControl) ∧
    (g.item = i → ¬left → ¬locally → gone → ignored .itemGone) ∧
    (g.item = i → ¬left → ¬locally → ¬gone → refused →
      ended ∧ t.posted (.guardRefused i false n) ∧ t.eqp.flag .guardRefused = true) ∧
    (g.item = i → ¬left → ¬locally → ¬gone → ¬refused →
      (8 ≤ air.length → ignored .queueFull) ∧
      (air.length < 8 →
        let A : Count := s.now + BitVec.ofNat 32 (max g.terms.lead 1)
        let d : Nat := g.terms.carried.getD (match s.findItem i with | some x => x.duration | none => 0)
        let record : PendingTake :=
          { item := i, air := A, arrival := s.now, sender := s.pcu.ownNumber, sequence := s.obq.sequence, carried := d,
            late := false, made := true }
        t.tke = { s.tke with guarded := none, pendingTake := (match s.tke.pendingTake with
          | none => some record
          | some old => if old.item = i ∧ Count.before A old.air = false then some old else some record) } ∧
        (∀ old, s.tke.pendingTake = some old → old.item ≠ i →
          t.posted (.takeSuperseded old.item old.air i A s.pcu.ownNumber .superseded)) ∧
        t.obq.routine = s.obq.routine ∧ t.obq.sequence = s.obq.sequence + 1 ∧
        t.obq.air.map (fun e => (e.payload, e.address, e.sequence)) = air.map (fun e => (e.payload, e.address, e.sequence)) ++
          [(.take i d A, g.terms.address, some s.obq.sequence)]))

/-- Everything but the line, the peer table and the port is as it was. -/
def State.sameWork (s t : State) : Prop :=
  s.sameStation t ∧ t.rls = s.rls ∧ t.tke = s.tke ∧ t.tmc = s.tmc ∧ t.fsc = s.fsc ∧ t.obq = s.obq

/-- A fire-queue entry of an element of the item (R79). -/
def Item.owns (x : Item) (g : FireEntry) : Prop := g.item = x.id ∧ ∃ e ∈ x.elements, e.id = g.element

/-- Every item but those of the two IDs stands where it stood, as it was, and so does the order. -/
def State.otherItems (s t : State) (a b : Option ItemId) : Prop :=
  t.rls.items.map (·.id) = s.rls.items.map (·.id) ∧
    ∀ (n : Nat) (i : Item), s.rls.items[n]? = some i → a ≠ some i.id → b ≠ some i.id → t.rls.items[n]? = some i

/-- The standby item of `s`, when there is one, has been released in `t` (R8): it is WAITING, its elements IDLE with no
prime frame, and no entry of it is left; the standby slot may have been filled anew since. -/
def State.standbyReleased (s t : State) : Prop :=
  ∀ i x, s.tke.standby = some i → s.findItem i = some x →
    (∃ y, t.findItem i = some y ∧ y.state = .waiting ∧ y.duration = x.duration ∧
      y.elements.map (·.id) = x.elements.map (·.id) ∧
      ∀ e ∈ y.elements, e.state = .idle ∧ e.primeFrame = none) ∧
      (∀ g ∈ t.fsc.queue, ¬x.owns g) ∧
      ∀ e ∈ x.elements, e.state = .primed → t.posted (.release i e.id)

/-- The item `id` has left the list (R14, R20): the others keep their order and their records; it was released first if it
was the standby item; a pending take for it is discarded with `cause`; a last-aired position on it moves to the item before
it, or to the head. -/
def State.itemRemoved (s t : State) (id : ItemId) (cause : SupersedeCause) : Prop :=
  t.rls.items = s.rls.items.filter (·.id != id) ∧
    t.tke.standby = (if s.tke.standby = some id then none else s.tke.standby) ∧
    t.tke.onAir = s.tke.onAir ∧ t.tke.control = s.tke.control ∧ t.tke.guarded = s.tke.guarded ∧
    (∀ p, s.tke.pendingTake = some p → p.item = id →
      t.tke.pendingTake = none ∧ t.posted (.takeSuperseded id p.air 0 0 0 cause)) ∧
    ((∀ p, s.tke.pendingTake = some p → p.item ≠ id) → t.tke.pendingTake = s.tke.pendingTake) ∧
    (s.tke.lastAired ≠ some id → t.tke.lastAired = s.tke.lastAired) ∧
    (∀ (n : Nat) (x : Item), s.tke.lastAired = some id → s.rls.items[n]? = some x → x.id = id →
      (n = 0 → t.tke.lastAired = none) ∧
        ∀ (m : Nat) (y : Item), n = m + 1 → s.rls.items[m]? = some y → t.tke.lastAired = some y.id) ∧
    (s.tke.standby ≠ some id → t.fsc = s.fsc) ∧
    (s.tke.standby = some id →
      t.fsc = { s.fsc with queue := t.fsc.queue } ∧
        ∀ x, s.findItem id = some x → (∀ g, g ∈ t.fsc.queue ↔ g ∈ s.fsc.queue ∧ ¬x.owns g) ∧
          ∀ e ∈ x.elements, e.state = .primed → t.posted (.release id e.id))

/-- FLOAT of the item `x` of the list, not ON_AIR (R18, R21): WAITING and STANDBY become FLOATED, the latter released first;
AIRED and FLOATED stay. -/
def State.itemFloated (s t : State) (x : Item) : Prop :=
  s.otherItems t (some x.id) none ∧
    (x.state = .waiting → t.findItem x.id = some { x with state := .floated } ∧ t.tke = s.tke ∧ t.fsc = s.fsc) ∧
    (x.state = .standby → t.tke = { s.tke with standby := none } ∧ (∀ g ∈ t.fsc.queue, ¬x.owns g) ∧
      ∃ y, t.findItem x.id = some y ∧ y.state = .floated ∧ y.duration = x.duration ∧ y.hardOut = x.hardOut ∧
        y.elements.map (·.id) = x.elements.map (·.id) ∧ ∀ e ∈ y.elements, e.state = .idle ∧ e.primeFrame = none) ∧
    (x.state = .aired ∨ x.state = .floated → t.rls = s.rls ∧ t.tke = s.tke ∧ t.fsc = s.fsc)

/-- RESTORE of the item `x` of the list (R18, R21): FLOATED becomes WAITING in its place; any other stays. -/
def State.itemRestored (s t : State) (x : Item) : Prop :=
  s.otherItems t (some x.id) none ∧ t.tke = s.tke ∧ t.fsc = s.fsc ∧
    t.findItem x.id = some (if x.state = .floated then { x with state := .waiting } else x)

/-- The planned duration of the item `x` of a list has been written as `d` (R9, R12, R22): no other item and no pointer has
moved; off the air, or with no change, no element and no entry has; on the air, with room, each END-anchored element that is
SCHEDULED or PRIMED has new entries for S + d - offset (not before S, and now + 1 when that is at or before now): PRIMED at the
frame Q, a GO alone, at the later of that and Q + p; otherwise a GO as its pre-roll allows and, when primable, its PRIME.  Its
late frames are those of the GO, the item's are raised to them, and when one is above 0 pre-roll-short is set and, ACTIVE with
room, one PREROLL_SHORT ATTENTION to the directors joins the air queue.  Every other element and entry is as it was. -/
def State.durationSet (s t : State) (x : Item) (d : Nat) : Prop :=
  s.otherItems t (some x.id) none ∧ t.tke = s.tke ∧
    ∃ y, t.findItem x.id = some y ∧ y.duration = d ∧ y.state = x.state ∧ y.airStart = x.airStart ∧ y.held = x.held ∧
      y.elements.map (·.id) = x.elements.map (·.id) ∧
      (x.state ≠ .onAir ∨ d = x.duration →
        y.elements = x.elements ∧ y.lateFrames = x.lateFrames ∧ t.fsc = s.fsc ∧ t.obq = s.obq) ∧
      (∀ e ∈ x.elements, e.anchor = .start ∨ (e.state ≠ .scheduled ∧ e.state ≠ .primed) → e ∈ y.elements) ∧
      ∀ S, x.state = .onAir → d ≠ x.duration → x.airStart = some S → s.fsc.queue.length + 2 * x.elements.length ≤ 32 →
        let moved : Element → Bool := fun e => e.anchor == .ending && (e.state == .scheduled || e.state == .primed)
        t.fsc = { s.fsc with queue := t.fsc.queue } ∧
        (∀ g : FireEntry, (∀ e ∈ x.elements, moved e = true → ¬(g.item = x.id ∧ g.element = e.id)) →
          (g ∈ t.fsc.queue ↔ g ∈ s.fsc.queue)) ∧
        y.lateFrames = ((y.elements.filter moved).map (·.late)).foldl max x.lateFrames ∧
        ((∃ e ∈ y.elements, moved e = true ∧ 0 < e.late) → t.eqp.flag .prerollShort = true ∧
          (s.pcu.mode = .active → s.obq.air.length < 8 →
            t.obq.air.map (fun q => (q.payload, q.address)) = s.obq.air.map (fun q => (q.payload, q.address)) ++
              [(.attention .prerollShort x.id, toDirectors)])) ∧
        ((∀ e ∈ y.elements, moved e = true → e.late = 0) → t.obq = s.obq) ∧
        ∀ e ∈ x.elements, moved e = true →
          let due : Count := S + BitVec.ofNat 32 (d - e.offset)
          let due : Count := if Count.atOrBefore due s.now then s.now + 1 else due
          (∀ Q, e.state = .primed → e.primeFrame = some Q →
            let G : Count := Count.later due (Q + BitVec.ofNat 32 e.preRoll)
            (∀ g : FireEntry, g ∈ t.fsc.queue ∧ g.item = x.id ∧ g.element = e.id ↔ g = ⟨G, .go, x.id, e.id⟩) ∧
            { e with remainder := none, late := min 255 (Count.diff due G).toNat } ∈ y.elements) ∧
          (e.state = .scheduled ∨ e.primeFrame = none →
            let G : Count := goFrame e.preRoll (s.now + 1) due
            (∀ g : FireEntry, g ∈ t.fsc.queue ∧ g.item = x.id ∧ g.element = e.id ↔
              g = ⟨G, .go, x.id, e.id⟩ ∨ 0 < e.preRoll ∧
                g = ⟨Count.later (s.now + 1) (due - BitVec.ofNat 32 e.preRoll), .prime, x.id, e.id⟩) ∧
            { e with state := .scheduled, remainder := none, late := min 255 (Count.diff due G).toNat } ∈ y.elements)

/-- The control state has gone to `new` for `cause` (R46): a change posts CONTROL_CHANGE and, with room in the routine queue,
an ANNOUNCE with the new state joins it; no change leaves the Take Engine and the queues. -/
def State.controlTo (s t : State) (new : Control) (cause : ControlCause) (sender : Nat) : Prop :=
  t.tke = { s.tke with control := new } ∧ t.rls = s.rls ∧ t.fsc = s.fsc ∧ t.obq.air = s.obq.air ∧
    (new = s.tke.control → t.obq = s.obq) ∧
    (new ≠ s.tke.control → t.posted (.controlChange s.tke.control new cause sender) ∧
      (s.obq.routine.length < 16 → t.obq.routine.map (fun e => (e.payload, e.address)) =
        s.obq.routine.map (fun e => (e.payload, e.address)) ++
          [(.announce s.pcu.identity s.values.roles new s.tke.onAir.itemId (s.tke.standby.getD 0), toAll)]))

/-- The control states of R46's table after a local request, a local release, a LOCKOUT and a RELEASE. -/
def Control.localRequested : Control → Control
  | .remote => .localControl | .localControl => .localControl | .remoteLocked => .remoteLocked
  | .localLocked => .localLocked

def Control.localReleased : Control → Control
  | .remote => .remote | .localControl => .remote | .remoteLocked => .remoteLocked | .localLocked => .remoteLocked

def Control.lockedOut : Control → Control
  | .remote => .remoteLocked | .localControl => .localLocked | .remoteLocked => .remoteLocked
  | .localLocked => .localLocked

def Control.released : Control → Control
  | .remote => .remote | .localControl => .localControl | .remoteLocked => .remote | .localLocked => .localControl

/-! ### The effects that a received frame and a completed SEND share (R19, R42, R72, R119) -/

/-- A CLEAR has acted (R43), in a sound list with the pointers in step: no take is pending or guarded, the standby item is
released, the on-air item keeps its pointer, and of it everything that had an entry or was held is SKIPPED; every hold on a
fire line ends. -/
def State.clearedBy (s t : State) : Prop :=
  t.recomputed ∧
    t.tke = { s.tke with pendingTake := none, standby := none, guarded := none } ∧
    (∀ p, s.tke.pendingTake = some p → t.posted (.takeSuperseded p.item p.air 0 0 0 .clear)) ∧
    (∀ g, s.tke.guarded = some g → t.posted (.takeIgnored .cleared g.item)) ∧
    s.standbyReleased t ∧
    s.otherItems t s.tke.standby (match s.tke.onAir with | .own o => some o | _ => none) ∧
    (∀ o x, s.tke.onAir = .own o → s.findItem o = some x →
      ∃ y, t.findItem o = some y ∧ y.state = x.state ∧ y.airStart = x.airStart ∧ y.duration = x.duration ∧
        y.held = false ∧ y.elements.map (·.id) = x.elements.map (·.id) ∧
        (∀ e ∈ x.elements, s.hasEntry o e.id = true ∨ (x.held = true ∧ e.state = .held) →
          ∀ e' ∈ y.elements, e'.id = e.id → e'.state = .skipped ∧ e'.primeFrame = none ∧ e'.remainder = none) ∧
        (∀ e ∈ x.elements, s.hasEntry o e.id = false → ¬(x.held = true ∧ e.state = .held) → e ∈ y.elements) ∧
        (∀ g ∈ t.fsc.queue, ¬x.owns g) ∧
        ∀ e ∈ x.elements, s.hasEntry o e.id = true → e.state = .primed → t.posted (.release o e.id)) ∧
    t.fsc.lines = s.fsc.lines.map (fun l => match l with | .held _ _ _ => .inactive | l => l) ∧
    t.fsc.latch = s.fsc.latch

/-- A STANDBY for the item `X` from a sender has acted (R41), in a sound list with the pointers in step. -/
def State.stoodBy (s t : State) (X : ItemId) (sender : Nat) : Prop :=
  (∀ x, s.findItem X = some x → x.state ≠ .standby → x.state ≠ .onAir →
    t.recomputed ∧ t.tke = { s.tke with standby := some X } ∧ s.standbyReleased t ∧
    s.otherItems t (some X) s.tke.standby ∧ t.posted (.standbySet X sender .set) ∧
    ∃ y, t.findItem X = some y ∧ y.state = .standby ∧ y.duration = x.duration ∧ y.hardOut = x.hardOut ∧
      y.elements.map (·.id) = x.elements.map (·.id) ∧
      (s.fsc.queue.length + x.elements.length ≤ 32 →
        (∀ e ∈ y.elements, e.primeFrame = none ∧ e.remainder = none ∧ e.late = 0 ∧
          (0 < e.preRoll → e.state = .scheduled ∧ (⟨s.now + 1, .prime, X, e.id⟩ : FireEntry) ∈ t.fsc.queue) ∧
          (e.preRoll = 0 → e.state = .idle)) ∧
        ((∃ e ∈ x.elements, e.needsReady = true ∧ e.ready = false) → s.pcu.mode = .active → s.obq.air.length < 8 →
          t.obq.air.map (fun q => (q.payload, q.address)) = s.obq.air.map (fun q => (q.payload, q.address)) ++
            [(.attention .notReady X, toDirectors)]))) ∧
    (∀ x, s.findItem X = some x → x.state = .standby →
      t.rls = s.rls ∧ t.tke = s.tke ∧ t.fsc = s.fsc ∧ t.obq = s.obq ∧ t.posted (.standbySet X sender .unchanged)) ∧
    (∀ x, s.findItem X = some x → x.state = .onAir →
      t.rls = s.rls ∧ t.tke = s.tke ∧ t.fsc = s.fsc ∧ t.obq = s.obq ∧ t.posted (.standbySet X sender .onAir)) ∧
    (s.findItem X = none →
      t.tke = { s.tke with standby := none } ∧ s.standbyReleased t ∧ s.otherItems t s.tke.standby none ∧
        t.obq = s.obq ∧ t.posted (.standbySet X sender .notHeld))

/-- A HOLD for the item `X` has acted (R44): on the own ON_AIR item of a sound list, not held, and on nothing otherwise. -/
def State.heldBy (s t : State) (X : ItemId) : Prop :=
  (∀ x, s.runListSound → s.tke.onAir = .own X → s.findItem X = some x → x.held = false →
    t.recomputed ∧ t.tke = s.tke ∧ t.obq = s.obq ∧ t.fsc = { s.fsc with queue := t.fsc.queue } ∧
    s.otherItems t (some X) none ∧
    ∃ y, t.findItem X = some y ∧ y = { x with held := true, elements := y.elements } ∧
      y.elements.map (·.id) = x.elements.map (·.id) ∧
      ∀ e ∈ x.elements,
        (∀ g, (e.state = .scheduled ∨ e.state = .primed ∨ e.state = .suppressed) → s.goEntry X e.id = some g →
          { e with state := .held, remainder := some (max 1 (Count.diff s.now g.due).toNat) } ∈ y.elements ∧
            ∀ h ∈ t.fsc.queue, ¬(h.item = X ∧ h.element = e.id)) ∧
        (s.goEntry X e.id = none ∨ e.state = .idle ∨ e.state = .fired ∨ e.state = .skipped ∨ e.state = .held →
          e ∈ y.elements)) ∧
    (s.tke.onAir ≠ .own X ∨ (∃ x, s.findItem X = some x ∧ x.held = true) → s.sameWork t)

/-- A RESUME for the item `X` has acted (R45): on the own ON_AIR item of a sound list, held, with two free entries for each
of its elements, and on nothing when the item is another or not held. -/
def State.resumedBy (s t : State) (X : ItemId) : Prop :=
  (∀ x, s.runListSound → s.tke.onAir = .own X → s.findItem X = some x → x.held = true →
    s.fsc.queue.length + 2 * x.elements.length ≤ 32 →
    t.recomputed ∧ t.tke = s.tke ∧ s.otherItems t (some X) none ∧
    ∃ y, t.findItem X = some y ∧ y.held = false ∧ y.state = x.state ∧
      y.duration = x.duration ∧ y.airStart = x.airStart ∧ y.elements.map (·.id) = x.elements.map (·.id) ∧
      ∀ e ∈ x.elements,
        (e.state ≠ .held → e ∈ y.elements) ∧
        ∀ r, e.state = .held → e.remainder = some r →
          let due : Count := s.now + BitVec.ofNat 32 r
          (e.primeFrame.isSome = true → (⟨due, .go, X, e.id⟩ : FireEntry) ∈ t.fsc.queue) ∧
          (e.primeFrame = none →
            (⟨goFrame e.preRoll (s.now + 1) due, .go, X, e.id⟩ : FireEntry) ∈ t.fsc.queue) ∧
          ∀ e' ∈ y.elements, e'.id = e.id → e'.remainder = none ∧ e'.primeFrame = e.primeFrame ∧
            e'.state = (if e.primeFrame.isSome then .primed else .scheduled)) ∧
    (s.tke.onAir ≠ .own X ∨ (∃ x, s.findItem X = some x ∧ x.held = false) → s.sameWork t)

/-- A STRETCH of the item `X` by `D` from a sender has acted (R22), in a sound list. -/
def State.stretchedBy (s t : State) (X : ItemId) (D : Int) (sender : Nat) : Prop :=
  let new : Nat → Nat := fun d => (max 0 (min 262143 ((d : Int) + D))).toNat
  ∃ outcome, t.posted (.editHeard .stretch sender X D outcome) ∧ (outcome = .applied → t.recomputed) ∧
    (∀ d S, s.tke.onAir = .foreign X d S → t.tke.onAir = .foreign X (new d) S ∧ t.rls = s.rls ∧ t.fsc = s.fsc ∧
      (∀ p, s.tke.pendingTake = some p →
        t.tke.pendingTake = some (if p.item = X then { p with carried := new p.carried } else p)) ∧
      (outcome = .applied ↔ t.tke ≠ s.tke) ∧ (outcome ≠ .applied → outcome = .noChange)) ∧
    ((∀ d S, s.tke.onAir ≠ .foreign X d S) →
      (∀ x, s.findItem X = some x → s.runListSound → t.tke = s.tke ∧ s.otherItems t (some X) none ∧
        (new x.duration = x.duration → outcome = .noChange ∧ t.rls = s.rls ∧ t.fsc = s.fsc) ∧
        (new x.duration ≠ x.duration → outcome = .applied ∧ s.durationSet t x (new x.duration) ∧
          ∀ y, t.findItem X = some y → y.hardOut = x.hardOut ∧ y.basis = x.basis)) ∧
      (s.findItem X = none → t.rls = s.rls ∧ t.fsc = s.fsc ∧ t.obq = s.obq ∧
        (∀ p, s.tke.pendingTake = some p → p.item = X →
          t.tke = { s.tke with pendingTake := some { p with carried := new p.carried } } ∧
          outcome = (if new p.carried = p.carried then .noChange else .applied)) ∧
        ((∀ p, s.tke.pendingTake = some p → p.item ≠ X) → t.tke = s.tke ∧ outcome = .noSuchItem)))

/-- A CUE for the item `X` with the stage code `c` has acted at a FLOOR station (R72 to R74): on the item on the air, own or
foreign, and on nothing otherwise. -/
def State.cuedBy (s t : State) (X : ItemId) (c : Byte) : Prop :=
  t.rls = s.rls ∧ t.tke = s.tke ∧ t.fsc = s.fsc ∧ t.obq = s.obq ∧
    (s.tke.onAir = .none ∨ s.tke.onAir.itemId ≠ X → t.tmc = s.tmc) ∧
    (s.tke.onAir ≠ .none → s.tke.onAir.itemId = X →
      t.recomputed ∧
      (∀ st : Stage, c = st.code → t.tmc.cueOverride = some (X, st) ∧ t.tmc.stage = st) ∧
      (c = 5 → t.tmc.cueOverride = none ∧ t.tmc.stage = s.computeTiming.stage) ∧
      (t.tmc.lw = true ↔ t.tmc.stage = .wrap ∨ t.tmc.stage = .over) ∧ (t.tmc.lf = true ↔ t.tmc.stage = .final) ∧
      (t.tmc.lo = true ↔ t.tmc.stage = .out ∨ t.tmc.stage = .over) ∧
      (t.tmc.stage ≠ s.tmc.stage →
        t.posted (.cueStage X s.tmc.stage t.tmc.stage s.computeTiming.countdown t.tmc.cueOverride.isSome)))

/-- A DROP, FLOAT or RESTORE of the item `X` from a sender has acted (R19 to R21), in a sound list with the pointers in step.
The delta 0 of its EDIT_HEARD is the model's choice (log entry 25). -/
def State.editedBy (s t : State) (kd : Kind) (X : ItemId) (sender : Nat) : Prop :=
  ∃ outcome, t.obq = s.obq ∧ t.posted (.editHeard kd sender X 0 outcome) ∧ (outcome = .applied → t.recomputed) ∧
    (s.findItem X = none → s.sameWork t ∧ outcome = .noSuchItem) ∧
    ∀ x, s.findItem X = some x →
      (x.state = .onAir → kd ≠ .restore → s.sameWork t ∧ outcome = .refusedOnAir) ∧
      (x.state ≠ .onAir →
        (kd = .drop → s.itemRemoved t X .dropped ∧ outcome = .applied) ∧
        (kd = .float → s.itemFloated t x ∧
          outcome = (if x.state = .waiting ∨ x.state = .standby then .applied else .noChange))) ∧
      (kd = .restore → s.itemRestored t x ∧ outcome = (if x.state = .floated then .applied else .noChange))

/-! ### A SEND in the statements (R119, R157 to R163) -/

/-- The body bytes that a SEND of the frame `p`, no TAKE, carries: its kind's frame body without the sequence byte (R190). -/
def sendBody (p : Payload) : List Byte := fieldBytes (p.fields 0)

/-- The frames that a SEND submits as they are, beside TAKE, CLEAR and POLL, with their fields in range (R118, R119). -/
def Payload.sendable : Payload → Prop
  | .standby i | .hold i | .resume i | .sweep i | .drop i | .float i | .restore i => i ≠ 0 ∧ i ≠ 0xFFFF
  | .stretch i d => i ≠ 0 ∧ i ≠ 0xFFFF ∧ -32768 ≤ d ∧ d ≤ 32767
  | .cue i c => i ≠ 0 ∧ i ≠ 0xFFFF ∧ c.toNat ≤ 5
  | .attention _ i => i ≠ 0xFFFF
  | .lockout | .release => True
  | .take .. | .clear | .poll | .status _ | .announce .. | .claim .. => False

/-- The address of a SEND of the frame `p` is admitted (R119): a role mask that is not 0, or a station of 1 … 30 other than
this one; a CUE to the FLOOR role or a station, an ATTENTION to the DIRECTOR role or a station. -/
def State.goodAddress (s : State) (p : Payload) (mode address : Byte) : Prop :=
  (mode = 0 ∧ address ≠ 0 ∨
      mode = 1 ∧ 1 ≤ address.toNat ∧ address.toNat ≤ 30 ∧ address.toNat ≠ s.pcu.ownNumber) ∧
    (p.kind = .cue → mode = 1 ∨ address = 0x40) ∧ (p.kind = .attention → mode = 1 ∨ address = 1)

/-- The frame `p` replaces, or merges with, an unsent entry that carries `old` (R162, R163). -/
def Payload.replaces : Payload → Payload → Prop
  | .standby _, .standby _ | .sweep _, .sweep _ => True
  | .cue i _, .cue j _ | .stretch i _, .stretch j _ => i = j
  | _, _ => False

/-- What the entry carries after the frame `p` has replaced `old`, or merged with it (R162, R163). -/
def Payload.mergedWith : Payload → Payload → Payload
  | .stretch i d, .stretch _ d' => .stretch i (max (-32768) (min 32767 (d' + d)))
  | p, _ => p

/-- The frame `p` has joined the tail of its queue (R156 to R158, R165): with the counter's number when it is acknowledged,
unsent, and nothing else has changed but, for the routine queue, the backpressure state. -/
def State.joined (s t : State) (p : Payload) (a : Address) : Prop :=
  ∃ e : QueueEntry, e.payload = p ∧ e.address = a ∧ e.flight = none ∧
    e.sequence = (if p.kind.acknowledged then some s.obq.sequence else none) ∧
    t = s.setObq t.obq ∧
    t.obq.sequence = (if p.kind.acknowledged then s.obq.sequence + 1 else s.obq.sequence) ∧
    t.obq.ringPointer = s.obq.ringPointer ∧
    (p.kind.urgency ≤ 2 → t.obq.air = s.obq.air ++ [e] ∧ t.obq.routine = s.obq.routine ∧
      t.obq.backpressure = s.obq.backpressure) ∧
    (2 < p.kind.urgency → t.obq.air = s.obq.air ∧ t.obq.routine = s.obq.routine ++ [e] ∧
      (s.obq.backpressure = .admitting →
        (t.obq.backpressure = .busy ↔ s.values.upper ≤ s.obq.routine.length + 1)))

/-- The entry at place `n` of the air queue, which held `e`, has been rewritten by the frame `p` (R162, R163): it keeps its
place and its number and takes the new frame's fields and address; nothing else has changed. -/
def State.rewritten (s t : State) (n : Nat) (e : QueueEntry) (p : Payload) (a : Address) : Prop :=
  ∃ e' : QueueEntry, e'.payload = p.mergedWith e.payload ∧ e'.address = a ∧ e'.sequence = e.sequence ∧ e'.flight = none ∧
    t = s.setObq { s.obq with air := s.obq.air.set n e' }

/-- The queues are as they were, but for automatic ATTENTIONs at the tail of the air queue (R129). -/
def State.onlyAttentions (s t : State) : Prop :=
  ∃ tail, t.obq = { s.obq with
      air := s.obq.air ++ tail, sequence := s.obq.sequence + BitVec.ofNat 8 tail.length } ∧
    ∀ e ∈ tail, (∃ r i, e.payload = .attention r i) ∧ e.address = toDirectors ∧ e.flight = none

/-- A SEND of the frame `p` that has been admitted has acted on the sending station itself (R19, R42, R44, R45, R72): as the
frame acts where it is heard, with the own number for the sender; a CUE at a FLOOR station alone; a SWEEP, an ATTENTION, a
LOCKOUT and a RELEASE not at all. -/
def State.actedOn (s t : State) : Payload → Prop
  | .standby i => s.stoodBy t i s.pcu.ownNumber
  | .hold i => s.heldBy t i
  | .resume i => s.resumedBy t i
  | .stretch i d => s.stretchedBy t i d s.pcu.ownNumber
  | .cue i c => (s.hasRole floorBit = true → s.cuedBy t i c) ∧ (s.hasRole floorBit = false → s.sameButPort t)
  | .drop i => s.editedBy t .drop i s.pcu.ownNumber
  | .float i => s.editedBy t .float i s.pcu.ownNumber
  | .restore i => s.editedBy t .restore i s.pcu.ownNumber
  | _ => s.sameButPort t

end Sys2Proof.Machine
end

