-- ==== Sys2Proof/Certificates/Slice0/Obligations.lean ====
section
/-! DEFINITION. The statements about the KC-62 for the provers. -/

open Sys2Proof Sys2Proof.Machine

/-- For every command c at the front of the queue, step is exec of c on the state with the queue's rest. On an empty
queue with no frame pulse under way, or while RESTARTING, the block idles; with one under way it takes the pulse's
front part and goes on to the next part that has something to do. The queue and the tick are the model's own (log
entries 1 and 3). -/
def Obligations.StepTakesTheFront : Prop :=
  (∀ (c : Instr) (rest : List Instr) (s : State), s.pending = c :: rest → step s = exec c (s.setPending rest)) ∧
    (∀ s : State, s.pending = [] → s.pulseRest = [] ∨ s.running = false → step s = .next s) ∧
    ∀ (s : State) (p : PulsePart) (l : List PulsePart), s.pending = [] → s.running = true → s.pulseRest = p :: l →
      step s = .next ((s.runPart p).setPulseRest l).advance

/-- Every command completes in every state: the manual names no condition that stops the part (the model's reading,
log entry 4). Whatever the command, the queue of waiting commands and the identity of the part stay as they were;
and every command but POWER_ON and RESTART_END leaves the configuration values and the restart record as they were.
(POWER_ON leaves the defaults, which is the model's choice of log entry 7.) -/
def Obligations.EveryCommandKeeps : Prop :=
  ∀ (c : Instr) (s : State), ∃ t, exec c s = .next t ∧ t.pending = s.pending ∧ t.pcu.identity = s.pcu.identity ∧
    ((∀ b, c ≠ .powerOn b) → (∀ image, c ≠ .restartEnd image) →
      t.sul.values = s.sul.values ∧ t.sul.record = s.sul.record)

/-- While the phase is RESTARTING, every command but POWER_ON, RESET_ACTIVE, RESTART_END and a read transfer leaves
the state as it is: pulses are not counted, the inputs are not sampled, the line is neither received nor driven, and
request frames are discarded uncounted. A read transfer changes only the port. -/
def Obligations.RestartingIsInert : Prop :=
  (∀ (c : Instr) (s : State), s.running = false → (∀ b, c ≠ .powerOn b) → c ≠ .resetActive →
      (∀ image, c ≠ .restartEnd image) → (∀ n, c ≠ .portRead n) → exec c s = .next s) ∧
    ∀ (n : Nat) (s : State), ∃ t, exec (.portRead n) s = .next t ∧ s.sameButPort t

/-- POWER_ON begins the cold restart of POWER, with RESET as held; RESET_ACTIVE that of PIN, warm unless it
interrupts a cold one; RESTART with COLD (0) or WARM (1), taken while the part runs, that of its request, with no
response; each leaves every block in its restart state, with the dominant run 0, no CLAIM waiting, and each input
filter without a sample, UNSETTLED when its input is enabled and INACTIVE when not (the run list is stated apart).
RESTART with another field is refused BAD_FIELD and begins nothing. -/
def Obligations.RestartsBegin : Prop :=
  (∀ (held : Bool) (s : State), ∃ t, exec (.powerOn held) s = .next t ∧ t.sul.phase = .restarting .cold ∧
      t.sul.cause = .power ∧ t.sul.resetInput = held ∧ t.inRestartStates) ∧
    (∀ s : State, ∃ t, exec .resetActive s = .next t ∧
      t.sul.phase = .restarting (if s.sul.phase = .restarting .cold then .cold else .warm) ∧
      t.sul.cause = .pin ∧ t.sul.resetInput = true ∧ t.inRestartStates) ∧
    (∀ s : State, s.portReady →
      (∃ t, exec (.restartRequest 0) s = .next t ∧ t.sul.phase = .restarting .cold ∧ t.sul.cause = .requestCold ∧
        t.sul.resetInput = s.sul.resetInput ∧ t.inRestartStates) ∧
      (∃ t, exec (.restartRequest 1) s = .next t ∧ t.sul.phase = .restarting .warm ∧ t.sul.cause = .requestWarm ∧
        t.sul.resetInput = s.sul.resetInput ∧ t.inRestartStates) ∧
      ∀ kind : Byte, kind ≠ 0 → kind ≠ 1 →
        ∃ t, exec (.restartRequest kind) s = .next t ∧ t.offers 0x1C .badField [] ∧ s.sameButPort t)

/-- A restart that is cold leaves no item and the last-aired position at the head. A warm restart keeps the items in
order: each keeps its planning fields and its air start; ON_AIR becomes AIRED with no actual duration, STANDBY
becomes WAITING, every other state stays; the late mark, the late frames and the held flag clear; each element keeps
its planning fields and its ready flag and becomes IDLE with its prime frame and remainder absent and its late
frames 0. The last-aired position becomes the own item that was on the air, and stays otherwise. The previous number
becomes the own number held, if any. -/
def Obligations.RestartRunList : Prop :=
  (∀ (held : Bool) (s : State), ∃ t, exec (.powerOn held) s = .next t ∧ t.rls.items = [] ∧ t.tke.lastAired = none ∧
      t.pcu.previous = 0) ∧
    (∀ s : State, s.portReady → ∃ t, exec (.restartRequest 0) s = .next t ∧ t.rls.items = [] ∧
      t.tke.lastAired = none ∧ t.pcu.previous = 0) ∧
    ∀ (c : Instr) (s : State), c = .resetActive ∧ s.sul.phase ≠ .restarting .cold ∨
        c = .restartRequest 1 ∧ s.portReady →
      ∃ t, exec c s = .next t ∧ t.rls.items.length = s.rls.items.length ∧
        (∀ (n : Nat) (i : Item), s.rls.items[n]? = some i → ∃ j, t.rls.items[n]? = some j ∧ i.warmKept j) ∧
        (∀ id, s.tke.onAir = .own id → t.tke.lastAired = some id) ∧
        ((∀ id, s.tke.onAir ≠ .own id) → t.tke.lastAired = s.tke.lastAired) ∧
        t.pcu.previous = (if s.pcu.ownNumber = 0 then s.pcu.previous else s.pcu.ownNumber)

/-- RESTART_END while RESTARTING with the queues empty: the values of the image are in use and in the record with
the cause and kind of the restart; no-time and the TIME group are the flags that are set, and ATN is asserted
exactly when TIME is enabled; the port is IDLE with the configured enables; the phase is RUNNING. An image that is
not CONFIG_BAD starts CLAIMING with the starting candidate and one CLAIM for it in the routine queue; CONFIG_BAD
starts LISTEN_ONLY with no candidate and no frame. Every kept item stays but for a hard out H, which is H times the
new frame rate over the old, rounded down, when they differ. While RUNNING there is no restart to end, and it does
nothing (log entry 4). -/
def Obligations.RestartEnds : Prop :=
  (∀ (image : List Byte) (s : State) (k : StartKind), s.sul.phase = .restarting k → s.obq = OutboundQueues.fresh →
      ∃ t, exec (.restartEnd image) s = .next t ∧ t.sul.phase = .running ∧
        t.sul.values = (readImage image).values ∧
        t.sul.record = { cause := s.sul.cause, kind := k, outcome := (readImage image).outcome,
                         startMode := (readImage image).startMode, clamped := (readImage image).clamped,
                         values := (readImage image).values } ∧
        t.eqp.port = .idle ∧ t.eqp.fifo = [] ∧ t.eqp.overruns = 0 ∧ t.eqp.overflows = 0 ∧
        t.eqp.enables = t.sul.values.groupEnables ∧ (∀ f, t.eqp.flag f = true ↔ f = .noTime) ∧
        (∀ g : Group, t.eqp.groups.getLsbD g.bit = true ↔ g = .time) ∧
        (t.eqp.atn = true ↔ t.sul.values.groupEnables.getLsbD Group.time.bit = true) ∧
        t.fck = FrameClock.fresh t.sul.values.inputEnables ∧
        t.rls.items = s.rls.items.map (fun i => { i with hardOut := i.hardOut.map fun H =>
          if t.rate = s.rate then H else H * t.rate / s.rate }) ∧
        ((readImage image).outcome ≠ .bad →
          t.pcu.mode = .claiming ∧ t.pcu.tries = 0 ∧ t.pcu.claimWaiting = false ∧
            ∃ n, t.pcu.candidate = some n ∧
              (n = if k = .warm ∧ 1 ≤ s.pcu.previous ∧ s.pcu.previous ≤ 30 then s.pcu.previous
                else if t.sul.values.preferred = 0 then 1 else t.sul.values.preferred) ∧
              t.obq.air = [] ∧
              t.obq.routine.map (·.payload) = [.claim n s.pcu.identity t.sul.values.roles]) ∧
        ((readImage image).outcome = .bad →
          t.pcu.mode = .listenOnly ∧ t.pcu.candidate = none ∧ t.obq = OutboundQueues.fresh)) ∧
    ∀ (image : List Byte) (s : State), s.running = true → exec (.restartEnd image) s = .next s

/-- RESTART_END with an answer shorter than 32 bytes: NO_MEMORY; 32 bytes all 0xFF: ERASED; another 32 bytes whose
last two differ from the check of the first thirty: CONFIG_BAD, with LISTEN_ONLY; each with every default and no
clamped field. With the check right, each number field takes the nearest value of its range and joins the
clamped-field set exactly when that is another value; masks, times and switches are taken as they stand; the outcome
is IMAGE_CLAMPED exactly when the set is not empty. (The two thresholds, when the lower is not below the upper, are
stated apart.) -/
def Obligations.ImageOutcomes : Prop :=
  ∀ (image : List Byte) (s : State) (k : StartKind), s.sul.phase = .restarting k →
    ∃ t, exec (.restartEnd image) s = .next t ∧
      (image.length < 32 →
        t.sul.record.outcome = .noMemory ∧ t.sul.values = Config.defaults ∧ t.sul.record.clamped = 0 ∧
          t.sul.record.startMode = .claiming) ∧
      (image = List.replicate 32 0xFF →
        t.sul.record.outcome = .erased ∧ t.sul.values = Config.defaults ∧ t.sul.record.clamped = 0 ∧
          t.sul.record.startMode = .claiming) ∧
      (image.length = 32 → image ≠ List.replicate 32 0xFF → crc (bytesBits (image.take 30)) ≠ field16 image 30 →
        t.sul.record.outcome = .bad ∧ t.sul.values = Config.defaults ∧ t.sul.record.clamped = 0 ∧
          t.sul.record.startMode = .listenOnly) ∧
      (image.length = 32 → image ≠ List.replicate 32 0xFF → crc (bytesBits (image.take 30)) = field16 image 30 →
        t.sul.record.outcome = (if t.sul.record.clamped = 0 then .ok else .clamped) ∧
          t.sul.record.startMode = .claiming ∧
          t.sul.values.preferred = min 30 (imageByte image 0) ∧ t.sul.values.roles = byteAt image 1 ∧
          t.sul.values.lineRate = min 3 (imageByte image 2) ∧ t.sul.values.frameRate = min 4 (imageByte image 3) ∧
          t.sul.values.takeLead = min 15 (imageByte image 4) ∧ t.sul.values.retryLimit = min 7 (imageByte image 5) ∧
          t.sul.values.absentLimit = max 1 (min 15 (imageByte image 6)) ∧
          t.sul.values.guard = (byteAt image 7).getLsbD 0 ∧ t.sul.values.guardRoles = byteAt image 8 ∧
          t.sul.values.ring = byteAt image 9 ∧ t.sul.values.wrapTime = imageByte image 12 ∧
          t.sul.values.finalTime = imageByte image 13 ∧ t.sul.values.overTolerance = imageByte image 14 ∧
          t.sul.values.overAlarmTime = imageByte image 15 ∧ t.sul.values.pollTimeout = max 1 (imageByte image 16) ∧
          t.sul.values.lineModes = byteAt image 17 ∧ t.sul.values.inputEnables = (byteAt image 18).setWidth 3 ∧
          t.sul.values.groupEnables = (byteAt image 19).setWidth 5 ∧
          (∀ i < 24, i ≠ 10 → i ≠ 11 → (t.sul.record.clamped.getLsbD i = true ↔
            i = 0 ∧ 30 < imageByte image 0 ∨ i = 2 ∧ 3 < imageByte image 2 ∨ i = 3 ∧ 4 < imageByte image 3 ∨
            i = 4 ∧ 15 < imageByte image 4 ∨ i = 5 ∧ 7 < imageByte image 5 ∨
            i = 6 ∧ (imageByte image 6 = 0 ∨ 15 < imageByte image 6) ∨ i = 16 ∧ imageByte image 16 = 0)))

/-- For an image of 32 bytes that is not erased and whose check passes: when the lower threshold, as R183 takes it,
is at or above the upper, both take their defaults, 14 and 8, and both join the clamped-field set, clamped before or
not; otherwise both stay as R183 takes them and are in the set exactly when it changed them. Guard, guard role mask
and roles are those of the image. A guard with an empty mask sweeps before every unforced take (none is made at
once) and refuses none; a station of no role is addressed by a frame to all or to its number and by no other role
frame; a peer of no role is expected by no role-addressed frame short of all stations. -/
def Obligations.ThresholdsTogether : Prop :=
  (∀ (image : List Byte) (s : State) (k : StartKind), s.sul.phase = .restarting k →
      image.length = 32 → image ≠ List.replicate 32 0xFF → crc (bytesBits (image.take 30)) = field16 image 30 →
      ∃ t, exec (.restartEnd image) s = .next t ∧
        (max 1 (min 16 (imageByte image 10)) ≤ min 15 (imageByte image 11) →
          t.sul.values.upper = 14 ∧ t.sul.values.lower = 8 ∧ t.sul.record.clamped.getLsbD 10 = true ∧
            t.sul.record.clamped.getLsbD 11 = true) ∧
        (min 15 (imageByte image 11) < max 1 (min 16 (imageByte image 10)) →
          t.sul.values.upper = max 1 (min 16 (imageByte image 10)) ∧ t.sul.values.lower = min 15 (imageByte image 11) ∧
            (t.sul.record.clamped.getLsbD 10 = true ↔ imageByte image 10 = 0 ∨ 16 < imageByte image 10) ∧
            (t.sul.record.clamped.getLsbD 11 = true ↔ 15 < imageByte image 11)) ∧
        t.sul.values.guard = (byteAt image 7).getLsbD 0 ∧ t.sul.values.guardRoles = byteAt image 8 ∧
        t.sul.values.roles = byteAt image 1) ∧
    (∀ (s : State) (n : StationSet), s.values.guardRoles = 0 → s.guardRefuses n = false) ∧
    (∀ (s : State) (i : ItemId) (o : Origin) (terms : TakeTerms) (q : Byte), s.values.guard = true →
      (s.startTake i o false terms).2 ≠ .made q) ∧
    (∀ (s : State) (w : Wire), s.values.roles = 0 →
      (s.addressed w = true ↔
        w.byNumber = true ∧ w.number = s.pcu.ownNumber ∨ w.byNumber = false ∧ w.address = 0xFF)) ∧
    ∀ (s : State) (a : Address) (n : Nat) (p : Peer), s.pcu.peer n = some p → p.roles = some 0 →
      a.byNumber = false → a.value ≠ 0xFF → inSet (s.expectedSet a) n = false

/-- While RUNNING: FRAME_PULSE and REF_LOST in EXTERNAL, INTERNAL_PULSE and a counted REF_BACK in FREE_RUN each
raise the count by one, wrapping, and sample the three inputs. FRAME_PULSE leaves EXTERNAL with the loss timer at 0;
REF_LOST leaves FREE_RUN, one internal pulse, ref-lost set, and REF_LOST posted with the count of the last reference
pulse and the count now; INTERNAL_PULSE counts one internal pulse more; a REF_BACK that comes T/2 or more after the
last internal pulse leaves EXTERNAL, the timer at 0, ref-lost clear, and REF_BACK posted with the count now and the
internal pulses; one that comes sooner does so too, but is absorbed: not counted, and nothing else changes. A pulse
of the other status does nothing (log entry 4). (That the number of internal pulses, which REF_BACK carries, wraps
from 2^32 - 1 to 0 is the model's choice: log entry 10.) -/
def Obligations.PulsesCount : Prop :=
  ∀ (p : Pulse) (s : State), s.running = true →
    (s.fck.status = .external →
      (∃ t, exec (.framePulse p) s = .next t ∧ t.fck.count = s.fck.count + 1 ∧ s.inputsSampled t p ∧
        t.fck.status = .external ∧ t.fck.lossTimer = 0 ∧ t.fck.internalPulses = s.fck.internalPulses) ∧
      (∃ t, exec (.refLost p) s = .next t ∧ t.fck.count = s.fck.count + 1 ∧ s.inputsSampled t p ∧
        t.fck.status = .freeRun ∧ t.fck.internalPulses = 1 ∧ t.eqp.flag .refLost = true ∧
        t.posted (.refLost s.fck.count (s.fck.count + 1))) ∧
      exec (.internalPulse p) s = .next s ∧ ∀ us, exec (.refBack us p) s = .next s) ∧
    (s.fck.status = .freeRun →
      (∃ t, exec (.internalPulse p) s = .next t ∧ t.fck.count = s.fck.count + 1 ∧ s.inputsSampled t p ∧
        t.fck.status = .freeRun ∧ t.fck.internalPulses = s.fck.internalPulses + 1) ∧
      (∀ us, us * 2 * s.rate < 1000000 → ∃ t, exec (.refBack us p) s = .next t ∧
        t.fck = { s.fck with status := .external, lossTimer := 0 } ∧ t.eqp.flag .refLost = false ∧
        t.posted (.refBack s.fck.count s.fck.internalPulses) ∧ t = (s.setFck t.fck).setEqp t.eqp) ∧
      (∀ us, 1000000 ≤ us * 2 * s.rate → ∃ t, exec (.refBack us p) s = .next t ∧ t.fck.count = s.fck.count + 1 ∧
        s.inputsSampled t p ∧ t.fck.status = .external ∧ t.fck.lossTimer = 0 ∧ t.eqp.flag .refLost = false ∧
        t.posted (.refBack (s.fck.count + 1) s.fck.internalPulses)) ∧
      exec (.framePulse p) s = .next s ∧ exec (.refLost p) s = .next s)

/-- SET TIME below D, taken: the port is WORKING on it with no response, and nothing else changes. The next pulse
(FRAME_PULSE or REF_LOST in EXTERNAL, INTERNAL_PULSE in FREE_RUN), before it goes on to another block, makes the
offset (ToD - count) mod D with its own count, so that the time of day is the time set; nothing is pending any more;
no-time is clear if the offset was absent; and the request in progress completes: taken whole, the pulse offers the
response DONE with the count and the ToD; divided, its first part left is that completion, and SET_TIME_APPLIED
offers it and leaves the Frame Clock (that it is a part of its own is the model's choice: log entry 3). A ToD of D
or more is refused BAD_FIELD at once. With a ToD offset present and no time setting pending, the time of day after a
FRAME_PULSE in EXTERNAL is the time before it plus one, modulo D, for every count: at the wrap from 2^32 - 1 to 0
the offset is corrected. -/
def Obligations.TimeSetting : Prop :=
  (∀ (v : BitVec 24) (s : State), s.portReady →
      (v.toNat < s.day → ∃ t, exec (.setTime v) s = .next t ∧ t.fck = { s.fck with pendingTime := some v.toNat } ∧
        t.eqp = { s.eqp with port := .working, inProgress := some 0x0E } ∧ t = (s.setFck t.fck).setEqp t.eqp) ∧
      (s.day ≤ v.toNat → ∃ t, exec (.setTime v) s = .next t ∧ t.offers 0x0E .badField [] ∧ s.sameButPort t)) ∧
    (∀ (c : Instr) (p : Pulse) (s : State) (v : Nat), s.running = true → s.fck.pendingTime = some v → v < s.day →
      s.fck.status = .external ∧ (c = .framePulse p ∨ c = .refLost p) ∨ s.fck.status = .freeRun ∧ c = .internalPulse p →
      ∃ t, exec c s = .next t ∧ t.fck.count = s.fck.count + 1 ∧ t.fck.pendingTime = none ∧
        (∃ o, t.fck.offset = some o ∧ o < s.day ∧ (t.fck.count.toNat + o) % s.day = v) ∧ t.tod = some v ∧
        (s.fck.offset = none → t.eqp.flag .noTime = false) ∧
        (s.eqp.inProgress = some 0x0E →
          (p.divided = false → t.offers 0x0E .done (beCount t.fck.count ++ be 3 v)) ∧
          (p.divided = true → t.eqp.inProgress = some 0x0E ∧ ∃ l, t.pulseRest = .timeApplied :: l))) ∧
    (∀ (s : State) (l : List PulsePart) (v : Nat), s.running = true → s.pulseRest = .timeApplied :: l →
      s.eqp.inProgress = some 0x0E → s.fck.pendingTime = none → s.tod = some v →
      ∃ t, exec .setTimeApplied s = .next t ∧ t.fck = s.fck ∧ t.offers 0x0E .done (beCount s.fck.count ++ be 3 v)) ∧
    ∀ (p : Pulse) (s : State) (o : Nat), s.running = true → s.fck.status = .external → s.fck.offset = some o →
      s.fck.pendingTime = none →
      ∃ t, exec (.framePulse p) s = .next t ∧
        s.tod = some ((s.fck.count.toNat + o) % s.day) ∧
        t.tod = some (((s.fck.count.toNat + o) % s.day + 1) % s.day)

/-- A FRAME_PULSE in EXTERNAL, undivided, with no pulse under way. TAKE recognised active with FORCE quiet, or FORCE
recognised active with or without TAKE, LOCAL quiet and no take pending: not ACTIVE, TAKE_IGNORED NOT_ACTIVE; in a
LOCAL state, LOCAL; while a guarded take waits, SWEEPING; without a next item, NO_NEXT, each with item 0; with the
air queue full and no SWEEP to rewrite, QUEUE_FULL with the item; each raises take-ignored and leaves the Take
Engine and the air queue. Otherwise an unguarded station, or a FORCE, has a take of the next item pending, for the
frame max(lead, 1) after this pulse, from the own number, and its TAKE to all stations at the tail of the air queue;
a guarded one has the take waiting for the result of a SWEEP to all stations at the tail. LOCAL recognised active or
inactive, in every mode (log entry 30): the control state moves by the table, with CONTROL_CHANGE of cause INPUT
when it changed; a request in REMOTE_LOCKED leaves it, with CONTROL_CHANGE of cause REFUSED_LOCKED. The item ID of
TAKE_IGNORED is the model's choice (log entry 15). -/
def Obligations.OperatorInputs : Prop :=
  ∀ (p : Pulse) (s : State), s.running = true → s.fck.status = .external → s.pulseRest = [] → p.divided = false →
    (∀ forced : Bool,
      (forced = true → p.force = true ∧ s.values.inputEnables.getLsbD 1 = true ∧ s.fck.forceInput = ⟨some true, .inactive⟩) →
      (forced = false → p.force = false ∧ s.fck.forceInput.level = .inactive ∧ p.take = true ∧
        s.values.inputEnables.getLsbD 0 = true ∧ s.fck.takeInput = ⟨some true, .inactive⟩) →
      p.localSw = false → s.fck.localInput.level = .inactive → s.tke.pendingTake = none →
      ∃ t, exec (.framePulse p) s = .next t ∧
        let ignored (r : IgnoreReason) (i : ItemId) : Prop :=
          t.posted (.takeIgnored r i) ∧ t.eqp.flag .takeIgnored = true ∧ t.tke = s.tke ∧ t.obq.air = s.obq.air
        let queue : List (Payload × Address × Option Byte) := s.obq.air.map fun e => (e.payload, e.address, e.sequence)
        (s.pcu.mode ≠ .active → ignored .notActive 0) ∧
        (s.pcu.mode = .active →
          (s.suppresses = true → ignored .localControl 0) ∧
          (s.suppresses = false →
            (s.tke.guarded ≠ none → ignored .sweeping 0) ∧
            (s.tke.guarded = none → s.nextItem = none → ignored .noNext 0) ∧
            ∀ i, s.tke.guarded = none → s.nextItem = some i →
              (forced = true ∨ s.values.guard = false →
                (8 ≤ s.obq.air.length → ignored .queueFull i) ∧
                (s.obq.air.length < 8 → s.values.takeLead ≤ 15 →
                  let A : Count := s.fck.count + 1 + BitVec.ofNat 32 (max s.values.takeLead 1)
                  ∃ q d, (∀ x, s.findItem i = some x → d = x.duration) ∧
                    t.tke = { s.tke with pendingTake := some (
                      { item := i, air := A, arrival := s.fck.count + 1, sender := s.pcu.ownNumber, sequence := q,
                        carried := d, late := false, made := true }) } ∧
                    t.obq.air.map (fun e => (e.payload, e.address, e.sequence)) = queue ++ [(.take i d A, toAll, some q)])) ∧
              (forced = false → s.values.guard = true → (∀ e ∈ s.obq.air, e.flight = none → ∀ j, e.payload ≠ .sweep j) →
                (8 ≤ s.obq.air.length → ignored .queueFull i) ∧
                (s.obq.air.length < 8 →
                  t.tke = { s.tke with guarded := some (
                    { item := i, wasOwn := (s.findItem i).isSome, origin := .takeInput,
                      terms := { address := toAll, lead := s.values.takeLead, carried := none }, lapsed := false }) } ∧
                  t.obq.air.map (fun e => (e.payload, e.address, e.sequence)) = queue ++ [(.sweep i, toAll, none)]))))) ∧
    (s.values.inputEnables.getLsbD 2 = true → s.fck.localInput = ⟨some p.localSw, levelOf !p.localSw⟩ →
      ∃ t, exec (.framePulse p) s = .next t ∧
        let new : Control := if p.localSw then s.tke.control.localRequested else s.tke.control.localReleased
        t.tke.control = new ∧
        (new ≠ s.tke.control → t.posted (.controlChange s.tke.control new .input 0)) ∧
        (p.localSw = true → s.tke.control = .remoteLocked →
          t.posted (.controlChange .remoteLocked .remoteLocked .refusedLocked 0)))

/-- For every state and every FRAME_PULSE, REF_LOST, INTERNAL_PULSE or REF_BACK: the pulse taken as divided,
followed by ticks of an empty queue until no part of it is left, ends in the state in which the same pulse taken
whole ends. Dividing a pulse into the commands that the table lists for its parts is the model's own (log entry 3).
-/
def Obligations.DividingAPulseChangesNothing : Prop :=
  ∀ (c d : Instr) (s : State) (p : Pulse),
    ((c = .framePulse { p with divided := false } ∧ d = .framePulse { p with divided := true }) ∨
      (c = .refLost { p with divided := false } ∧ d = .refLost { p with divided := true }) ∨
      (c = .internalPulse { p with divided := false } ∧ d = .internalPulse { p with divided := true }) ∨
      ∃ us, s.absorbs us = false ∧ c = .refBack us { p with divided := false } ∧
        d = .refBack us { p with divided := true }) →
    s.running = true → (s.fck.status = .external ↔ (c = .framePulse { p with divided := false } ∨
      c = .refLost { p with divided := false })) →
    ∃ u v, exec c s = .next u ∧ exec d s = .next v ∧ u.pulseRest = [] ∧ ∃ n, State.tick^[n] v = u

/-- TAKE_EXECUTION at the air frame of a pending take whose item is in a sound run list: the on-air pointer is OWN,
the last-aired position is the item, no take is pending, the standby slot empties exactly when it held the item,
control and guard stay, the cue override ends. The item is ON_AIR from the air frame, not held, its late mark that
of the take, its actual duration absent (from whatever state it is taken: log entry 31), each element SCHEDULED,
PRIMED or SKIPPED. Another own item that was on the air is AIRED, not held, with its actual duration when below
2^31; each of its elements that has not fired loses its entries and by CANCEL is SKIPPED, with RELEASE when it was
PRIMED, and by FORCE FIRED, to its event and its line (the line stated where one element alone goes to it), or
SUPPRESSED in a LOCAL state; each other element stays, and so does a line that none is forced to. (A HELD element
that is SKIPPED loses its prime frame: log entry 22.) Every other item is as it was, and so is the order. TAKE_DONE
is posted; a late take raises late-take. -/
def Obligations.TakePutsOwnItemOnAir : Prop :=
  ∀ (s : State) (l : List PulsePart) (p : PendingTake) (x : Item), s.running = true → s.runListSound →
    s.pulseRest = .take :: l → noHandOff l → s.tke.pendingTake = some p → p.air = s.now → s.findItem p.item = some x →
    ∃ t, exec .takeExecution s = .next t ∧
      t.tke = { s.tke with
        onAir := .own p.item, lastAired := some p.item, pendingTake := none
        standby := if s.tke.standby = some p.item then none else s.tke.standby } ∧
      t.tmc.cueOverride = none ∧
      (∃ y, t.findItem p.item = some y ∧ y.duration = x.duration ∧ y.hardOut = x.hardOut ∧ y.basis = x.basis ∧
        y.state = .onAir ∧ y.airStart = some p.air ∧ y.actual = none ∧ y.lateMark = p.late ∧ y.held = false ∧
        y.elements.map (·.id) = x.elements.map (·.id) ∧
        (∀ e ∈ y.elements, e.state = .scheduled ∨ e.state = .primed ∨ e.state = .skipped) ∧
        t.posted (.takeDone p.item true p.air p.late y.lateFrames
          (match s.tke.onAir with | .own o => if o = p.item then 0 else o | _ => 0))) ∧
      (∀ o z, s.tke.onAir = .own o → o ≠ p.item → s.findItem o = some z →
        ∃ y, t.findItem o = some y ∧ y.state = .aired ∧ y.held = false ∧ y.duration = z.duration ∧
          (∀ S, z.airStart = some S → 0 ≤ Count.diff S p.air → y.actual = some (Count.diff S p.air).toNat) ∧
          (∀ e ∈ y.elements, e.state ≠ .scheduled ∧ e.state ≠ .primed ∧ e.state ≠ .held) ∧
          y.elements.map (·.id) = z.elements.map (·.id) ∧ (∀ e ∈ z.elements, s.tookOff t o y.elements e) ∧
          (s.fsc.lines.length = 8 → ∀ n < 8,
            ((∀ e ∈ z.elements, ¬s.forcedTo o e n) → t.fsc.line n = s.fsc.line n) ∧
            ∀ e ∈ z.elements, s.forcedTo o e n → (∀ e' ∈ z.elements, s.forcedTo o e' n → e' = e) → s.wentTo t o e)) ∧
      t.rls.items.map (·.id) = s.rls.items.map (·.id) ∧
      (∀ (n : Nat) (i : Item), s.rls.items[n]? = some i → i.id ≠ p.item → s.tke.onAir ≠ .own i.id →
        t.rls.items[n]? = some i) ∧
      (p.late = true → t.eqp.flag .lateTake = true) ∧ t.fck = s.fck ∧ t.pcu = s.pcu ∧ t.lne = s.lne ∧ t.sul = s.sul

/-- TAKE_EXECUTION at the air frame of a pending take whose item is not in a sound run list: the on-air pointer is
FOREIGN with the item, the carried duration and the air frame; the last-aired position and the standby slot stay; no
take is pending. An own item that was on the air is AIRED and not held; every other item is as it was. TAKE_DONE is
posted as not own. A late take raises late-take: for a FOREIGN item that is the model's reading of R39 (log entry
23). -/
def Obligations.TakePutsForeignItemOnAir : Prop :=
  ∀ (s : State) (l : List PulsePart) (p : PendingTake), s.running = true → s.runListSound →
    s.pulseRest = .take :: l → noHandOff l → s.tke.pendingTake = some p → p.air = s.now → s.findItem p.item = none →
    ∃ t, exec .takeExecution s = .next t ∧
      t.tke = { s.tke with onAir := .foreign p.item p.carried p.air, pendingTake := none } ∧
      t.tmc.cueOverride = none ∧
      (∀ o z, s.tke.onAir = .own o → s.findItem o = some z →
        ∃ y, t.findItem o = some y ∧ y.state = .aired ∧ y.held = false) ∧
      t.rls.items.map (·.id) = s.rls.items.map (·.id) ∧
      (∀ (n : Nat) (i : Item), s.rls.items[n]? = some i → s.tke.onAir ≠ .own i.id → t.rls.items[n]? = some i) ∧
      t.posted (.takeDone p.item false p.air p.late 0
        (match s.tke.onAir with | .own o => if o = p.item then 0 else o | _ => 0)) ∧
      (p.late = true → t.eqp.flag .lateTake = true) ∧ t.fck = s.fck ∧ t.pcu = s.pcu ∧ t.lne = s.lne ∧ t.sul = s.sul

/-- TAKE_EXECUTION for an item of a sound run list. With two free entries for each of its elements: an element
PRIMED at standby, with no entry, keeps its prime frame Q and has exactly one entry, a GO at the later of its due D
and Q + p; any other one, and every one of the item that was on the air, has exactly a GO at the later of D and the
PRIME's frame plus p and, for p above 0, a PRIME at the later of D - p and the earliest frame E, and is SCHEDULED. D
is S + offset for a START anchor, S + P - offset (not before S) for an END one, and E the later of the arrival plus
1 and S. The late frames are the frames by which the GO falls after D, up to 255, and the item's the most of them;
when one is above 0, pre-roll-short is set and, ACTIVE with room, one PREROLL_SHORT ATTENTION to the directors joins
the air queue; otherwise the queues stay. With the fire queue full of entries of other items: every element is
SKIPPED, with no prime frame and no late frames, the queue stays, fire-overflow and the latch are set and, ACTIVE
with room, one FIRE_OVERFLOW ATTENTION joins; the latch is clear when the item has no element. -/
def Obligations.TakeSchedulesElements : Prop :=
  ∀ (s : State) (l : List PulsePart) (p : PendingTake) (x : Item), s.running = true → s.runListSound →
    s.pulseRest = .take :: l → noHandOff l → s.tke.pendingTake = some p → p.air = s.now → s.findItem p.item = some x →
    ∃ t y, exec .takeExecution s = .next t ∧ t.findItem p.item = some y ∧
      let told (r : Reason) : Prop := s.pcu.mode = .active → s.obq.air.length < 8 →
        t.obq.air.map (fun e => (e.payload, e.address, e.sequence)) =
          s.obq.air.map (fun e => (e.payload, e.address, e.sequence)) ++
            [(.attention r p.item, toDirectors, some s.obq.sequence)]
      (s.fsc.queue.length + 2 * x.elements.length ≤ 32 →
        t.fsc.latch = false ∧ y.lateFrames = (y.elements.map (·.late)).foldl max 0 ∧
        ((∃ e ∈ y.elements, 0 < e.late) → t.eqp.flag .prerollShort = true ∧ told .prerollShort) ∧
        ((∀ e ∈ y.elements, e.late = 0) → t.obq = s.obq) ∧
        ∀ e ∈ x.elements,
          let D : Count := match e.anchor with
            | .start => p.air + BitVec.ofNat 32 e.offset
            | .ending => p.air + BitVec.ofNat 32 (x.duration - e.offset)
          let E : Count := Count.later (p.arrival + 1) p.air
          (∀ Q, x.state ≠ .onAir → e.state = .primed → e.primeFrame = some Q →
            (∀ g ∈ s.fsc.queue, ¬(g.item = p.item ∧ g.element = e.id)) →
            let G : Count := Count.later D (Q + BitVec.ofNat 32 e.preRoll)
            (∀ g : FireEntry, g ∈ t.fsc.queue ∧ g.item = p.item ∧ g.element = e.id ↔ g = ⟨G, .go, p.item, e.id⟩) ∧
            { e with remainder := none, late := min 255 (Count.diff D G).toNat } ∈ y.elements) ∧
          (x.state = .onAir ∨ e.state ≠ .primed ∨ e.primeFrame = none →
            let G : Count := goFrame e.preRoll E D
            (∀ g : FireEntry, g ∈ t.fsc.queue ∧ g.item = p.item ∧ g.element = e.id ↔
              g = ⟨G, .go, p.item, e.id⟩ ∨
                0 < e.preRoll ∧ g = ⟨Count.later E (D - BitVec.ofNat 32 e.preRoll), .prime, p.item, e.id⟩) ∧
            { e with state := .scheduled, primeFrame := none, remainder := none,
                     late := min 255 (Count.diff D G).toNat } ∈ y.elements)) ∧
      (32 ≤ s.fsc.queue.length → (∀ g ∈ s.fsc.queue, g.item ≠ p.item ∧ s.tke.onAir ≠ .own g.item) →
        t.fsc.queue = s.fsc.queue ∧ (t.fsc.latch = true ↔ x.elements ≠ []) ∧ y.lateFrames = 0 ∧
        y.elements = x.elements.map (fun e =>
          { e with state := .skipped, primeFrame := none, remainder := none, late := 0 }) ∧
        (x.elements ≠ [] → t.eqp.flag .fireOverflow = true ∧ told .fireOverflow))

/-- PRIME_EXECUTION with the queue pass next, a PRIME at the head of the fire queue due at or before now, and its
element in the list: the entry has left the queue. Outside the LOCAL states the element is PRIMED with this pulse as
its prime frame, and PRIME is posted with the frame of its GO entry; in them it is SUPPRESSED with no prime frame.
No other element, no fire line and no GO entry changes. -/
def Obligations.PrimeFires : Prop :=
  ∀ (s : State) (l : List PulsePart) (g : FireEntry) (q : List FireEntry) (x : Element), s.running = true →
    s.pulseRest = .pass :: l → noHandOff l → s.fsc.queue = g :: q → g.action = .prime →
    Count.atOrBefore g.due s.now = true → s.findElement g.item g.element = some x →
    ∃ t, exec .primeExecution s = .next t ∧ t.fsc = { s.fsc with queue := q } ∧ t.tke = s.tke ∧
      t.findElement g.item g.element = some (if s.suppresses then
          { x with state := .suppressed, primeFrame := none, remainder := none }
        else { x with state := .primed, primeFrame := some s.now }) ∧
      (s.suppresses = false →
        t.posted (.prime g.item g.element x.preRoll ((q.find? fun h => h.isOf g.item g.element && h.action == .go).map (·.due)))) ∧
      ∀ i n, ¬(i = g.item ∧ n = g.element) → t.findElement i n = s.findElement i n

/-- GO_EXECUTION with the queue pass next, a GO at the head of the fire queue due at or before now, its element in
the list: the entry has left the queue. In a LOCAL state the element is SUPPRESSED and no line moves. Otherwise it
is FIRED. A target line in PULSE mode already pulsing at this pulse stays as it is, with pulse-merged set and
PULSE_MERGED posted; else it pulses with this element. In LEVEL mode it is HELD by this element until max(duration,
1) frames from now, whether it was held or not. An EVENT target moves no line; EVENT and BOTH post GO with the late
frames and the line's outcome. No other line and no other element changes. -/
def Obligations.GoFires : Prop :=
  ∀ (s : State) (l : List PulsePart) (g : FireEntry) (q : List FireEntry) (x : Element), s.running = true →
    s.pulseRest = .pass :: l → noHandOff l → s.fsc.queue = g :: q → g.action = .go →
    Count.atOrBefore g.due s.now = true → s.findElement g.item g.element = some x → s.fsc.lines.length = 8 →
    (∀ n, x.target = .line n ∨ x.target = .both n → n < 8) →
    ∃ t, exec .goExecution s = .next t ∧ t.fsc.queue = q ∧ t.fsc.latch = s.fsc.latch ∧ t.tke = s.tke ∧
      (∀ i n, ¬(i = g.item ∧ n = g.element) → t.findElement i n = s.findElement i n) ∧
      (s.suppresses = true → t.fsc.lines = s.fsc.lines ∧
        t.findElement g.item g.element =
          some { x with state := .suppressed, primeFrame := none, remainder := none }) ∧
      (s.suppresses = false →
        t.findElement g.item g.element = some { x with state := .fired, remainder := none } ∧
        (x.target = .event → t.fsc.lines = s.fsc.lines) ∧
        (∀ k, ¬(x.target = .line k ∨ x.target = .both k) → t.fsc.line k = s.fsc.line k) ∧ s.wentTo t g.item x)

/-- PULSE_END of a line PULSING since an earlier pulse, in the pulse-ending part, and LEVEL_HOLD_END of a line HELD
until now, in the hold-ending part: the line is INACTIVE and every other line, the fire queue, the run list and the
Take Engine stay. (The parts that follow at once, of a divided pulse with no transition to hand on, are at most the
recomputation.) -/
def Obligations.FireLinesEnd : Prop :=
  ∀ (s : State) (l : List PulsePart) (n : Nat), s.running = true → noHandOff l → s.fsc.lines.length = 8 → n < 8 →
    (∀ i e b, s.pulseRest = .pulseEnds :: l → s.fsc.line n = .pulsing i e b → b ≠ s.now →
      ∃ t, exec (.pulseEnd n) s = .next t ∧ t.fsc.line n = .inactive ∧ (∀ k, k ≠ n → t.fsc.line k = s.fsc.line k) ∧
        t.fsc.queue = s.fsc.queue ∧ t.rls = s.rls ∧ t.tke = s.tke ∧ t.fck = s.fck ∧ t.obq = s.obq) ∧
    (∀ i e, s.pulseRest = .holdEnds :: l → s.fsc.line n = .held i e s.now →
      ∃ t, exec (.levelHoldEnd n) s = .next t ∧ t.fsc.line n = .inactive ∧
        (∀ k, k ≠ n → t.fsc.line k = s.fsc.line k) ∧
        t.fsc.queue = s.fsc.queue ∧ t.rls = s.rls ∧ t.tke = s.tke ∧ t.fck = s.fck ∧ t.obq = s.obq)

/-- For any state, its counted items being those WAITING or STANDBY after the current position. NONE: elapsed and
countdown absent, remaining 0. OWN and FOREIGN: elapsed is now - S, remaining what is left of P or of the carried
duration, not below 0, and 0 while held; past 2^31 - 1 frames elapsed is 2^31 - 1 and remaining 0, for a FOREIGN
item by the model's reading (log entry 35). NO_TIME without a ToD offset, OPEN without a hard out on the air or
among the counted items, else CLOSED with the item and hard out H of the first: T is (H - ToD) mod D, the sum that
of the segment's P, over/under remaining + sum - T, behind when above 0, required end and back-times H less the sum
of what must still run, mod D, each back-time marked when that is before now. To-end is remaining and the P of all
counted items. The countdown is absent for NONE and for a carried duration of 0, 0 while held, T less the sum on the
basis SEGMENT of a CLOSED segment, else duration less elapsed; its stage follows by the three thresholds. Sums
saturate at 16,777,215, over/under and countdown at 8,388,607. The recomputation that ends a pulse holds this result
and the effective stage (the forced one under an override), posts CUE_STAGE for a stage that changed and no event
else, sets the over-alarm condition exactly when the segment is CLOSED and over/under above the threshold, and
raises over-alarm exactly when the condition goes from clear to set. -/
def Obligations.TimingValues : Prop :=
  (∀ (s : State) (counted : List Item), s.counts counted →
      let r := s.computeTiming
      let elapsed (S : Count) : Nat := if 0 ≤ Count.diff S s.now then (Count.diff S s.now).toNat else 2147483647
      let left (d : Nat) (S : Count) : Nat := if 0 ≤ Count.diff S s.now then d - (Count.diff S s.now).toNat else 0
      let saturated (c : Int) : Int := max (-8388607) (min 8388607 c)
      (s.tke.onAir = .none → r.kind = .none ∧ r.item = 0 ∧ r.elapsed = none ∧ r.remaining = 0 ∧ r.uncertain = false ∧
        r.held = false ∧ r.countdown = none) ∧
      (∀ i d S, s.tke.onAir = .foreign i d S → r.kind = .foreign ∧ r.item = i ∧ r.elapsed = some (elapsed S) ∧
        r.remaining = left d S ∧ (r.uncertain = true ↔ d = 0) ∧ r.held = false ∧
        r.countdown = (if d = 0 then none else some (saturated ((d : Int) - elapsed S)))) ∧
      (∀ x S, s.tke.onAir = .own x.id → s.findItem x.id = some x → x.airStart = some S →
        r.kind = .own ∧ r.item = x.id ∧ r.elapsed = some (elapsed S) ∧
        r.remaining = (if x.held then 0 else left x.duration S) ∧ r.uncertain = false ∧ r.held = x.held ∧
        (x.held = true → r.countdown = some 0) ∧
        (x.held = false → x.basis = .item ∨ r.segment = none →
          r.countdown = some (saturated ((x.duration : Int) - elapsed S))) ∧
        ∀ v seg id H, x.held = false → x.basis = .segment → r.segment = some v → s.closesAt counted seg id H →
          r.countdown = some (saturated ((v.target : Int) - plannedSum seg))) ∧
      (s.fck.offset = none → r.status = .noTime ∧ r.segment = none) ∧
      (∀ o, s.fck.offset = some o →
        ((∀ seg id H, ¬s.closesAt counted seg id H) → r.status = .opened ∧ r.segment = none) ∧
        ∀ seg id H, s.closesAt counted seg id H → r.status = .closed ∧ ∃ v, r.segment = some v ∧ v.hardOutItem = id ∧
          v.fit s.day ((s.fck.count.toNat + o) % s.day) r.remaining seg H) ∧
      r.toEnd = min 16777215 (r.remaining + plannedSum counted) ∧ (r.countdown = none → r.stage = .clear) ∧
      ∀ c, r.countdown = some c → r.stage.fits (s.values.wrapTime * s.rate)
        (min s.values.finalTime s.values.wrapTime * s.rate) (s.values.overTolerance * s.rate) c) ∧
    ∀ s : State, s.running = true → s.pending = [] → s.pulseRest = [.recompute] →
      ∃ t, step s = .next t ∧ t = ((s.setTmc t.tmc).setEqp t.eqp).setPulseRest [] ∧
        let r := s.computeTiming
        t.tmc.result = some r ∧ t.tmc.cueOverride = s.tmc.cueOverride ∧
        t.tmc.stage = (match s.tmc.cueOverride with | some (_, st) => st | none => r.stage) ∧
        (t.tmc.stage ≠ s.tmc.stage →
          t.posted (.cueStage r.item s.tmc.stage t.tmc.stage r.countdown s.tmc.cueOverride.isSome)) ∧
        (t.tmc.stage = s.tmc.stage → t.eqp.fifo = s.eqp.fifo) ∧
        (t.tmc.overAlarm = true ↔
          ∃ v, r.segment = some v ∧ ((s.values.overAlarmTime * s.rate : Nat) : Int) < v.overUnder) ∧
        (t.tmc.overAlarm = true → s.tmc.overAlarm = false → t.eqp.flag .overAlarm = true) ∧
        (t.tmc.overAlarm = false ∨ s.tmc.overAlarm = true → t.eqp.flag .overAlarm = s.eqp.flag .overAlarm)

/-- POLL_FRAME accepted: with room in the routine queue a STATUS to the poller joins it, with the control state, the
on-air, standby and pending item IDs (0 for none), the count of the fire queue, over/under (0x800000 when absent)
and the group flags as they stand (as they stood before, when the poller was PRESENT and its census posts nothing).
STATUS_FRAME of the station whose answer is awaited, its fields within their codes: the poll is IDLE, the result
ANSWERED with the body (bits 5 to 7 of the group flags too, as received: the model's choice, log entry 40),
POLL_RESULT posted. POLL_TIMEOUT at the timeout frame: the poll is IDLE, the result NO_ANSWER of cause TIMEOUT, with
its event. -/
def Obligations.Polls : Prop :=
  (∀ (f : RxFrame) (s : State), s.Hears .poll f → f.wire.byNumber = true → s.obq.routine.length < 16 →
      ∃ t, exec (.pollFrame f) s = .next t ∧ s.sameStation t ∧ t.rls = s.rls ∧ t.tke = s.tke ∧ t.fsc = s.fsc ∧
        t.obq.air = s.obq.air ∧ ∃ b : StatusBody,
          t.obq.routine.map (fun e => (e.payload, e.address)) = s.obq.routine.map (fun e => (e.payload, e.address)) ++
            [(.status b, toNumber f.wire.sender.toNat)] ∧
          b.control = s.tke.control.code ∧ b.onAir = s.tke.onAir.itemId ∧ b.standby = s.tke.standby.getD 0 ∧
          b.pending = (match s.tke.pendingTake with | none => 0 | some p => p.item) ∧
          b.fireCount = BitVec.ofNat 8 s.fsc.queue.length ∧
          ((∀ r v, s.tmc.result = some r → r.segment = some v → b.overUnder = BitVec.ofInt 24 v.overUnder) ∧
            ((∀ r, s.tmc.result = some r → r.segment = none) → b.overUnder = 0x800000)) ∧
          (s.pcu.presence f.wire.sender.toNat = .present → b.groups = s.eqp.groups.setWidth 8)) ∧
    (∀ (f : RxFrame) (s : State) (n : Count), s.Hears .status f → s.pcu.poll = .awaiting f.wire.sender.toNat n →
      (Control.ofCode (byteAt f.wire.body 0)).isSome = true → field16 f.wire.body 1 ≠ 0xFFFF →
      field16 f.wire.body 3 ≠ 0xFFFF → field16 f.wire.body 5 ≠ 0xFFFF → (byteAt f.wire.body 7).toNat ≤ 32 →
      ∃ t, exec (.statusFrame f) s = .next t ∧ s.sameWork t ∧ t.pcu.poll = .idle ∧
        ∃ b : StatusBody, fieldBytes b.fields = f.wire.body ∧
          t.pcu.pollResult = some { target := f.wire.sender.toNat, cause := .none, count := s.now, body := some b } ∧
          t.posted (.pollResult f.wire.sender.toNat .none (some b))) ∧
    ∀ (s : State) (l : List PulsePart) (k : Nat), s.running = true → noHandOff l → s.pulseRest = .pollTimeout :: l →
      s.pcu.poll = .awaiting k s.now →
      ∃ t, exec .pollTimeout s = .next t ∧
        t.pcu = { s.pcu with
          poll := .idle, pollResult := some { target := k, cause := .timeout, count := s.now, body := none } } ∧
        t.posted (.pollResult k .timeout none) ∧ t.rls = s.rls ∧ t.tke = s.tke ∧ t.fsc = s.fsc ∧ t.obq = s.obq

/-- From GAP or the end field, LINE_IDLE (bit times with no start bit among them, then recessive ones) leaves the
line IDLE, the dominant run 0 and sending not suspended, and changes at most the Line Engine and line-stuck. In IDLE
recessive bit times change nothing, and the first dominant one puts the line in FRAME and the station in LISTENING,
with the run 0, no receive record and the rest kept; the bit times after it are those of that frame, which its own
command brings (the model's choice, log entry 14). LINE_STUCK with no other bit time leaves GAP at count 0, the run
at 64 held, sending suspended and line-stuck set when the run was below 64. A dominant bit of the end field puts the
line in GAP at once, part NONE and no receive record, and changes nothing else; END_FIELD_DOMINANT_BIT in any other
phase does nothing (log entry 4). -/
def Obligations.GapBitTimes : Prop :=
  (∀ (bits : List Bool) (s : State), s.running = true → s.betweenFrames → s.noStartBit bits →
      ∃ t, exec (.lineIdle bits) s = .next t ∧ t.lne.phase = .idle ∧ t.lne.dominantRun = 0 ∧ t.lne.suspended = false ∧
        t.lne.tx = s.lne.tx ∧ t = (s.setLne t.lne).setEqp t.eqp ∧ t.eqp.fifo = s.eqp.fifo ∧
        (bits = [] → t.eqp = s.eqp)) ∧
    (∀ (bits : List Bool) (s : State), s.running = true → s.lne.phase = .idle →
      let begun := s.setLne { s.lne with phase := .frame none, part := .listening, dominantRun := 0, rx := none }
      exec (.lineIdle bits) s = .next (if true ∈ bits then begun else s) ∧ exec (.lineStuck bits) s = .next begun) ∧
    (∀ s : State, s.running = true → s.betweenFrames → s.lne.dominantRun < 64 →
      ∃ t, exec (.lineStuck []) s = .next t ∧ t.lne.phase = .gap 0 ∧ t.lne.dominantRun = 64 ∧ t.lne.suspended = true ∧
        t.eqp.flag .lineStuck = true ∧ t = (s.setLne t.lne).setEqp t.eqp) ∧
    (∀ (s : State) (k : Nat), s.running = true → s.lne.phase = .frame (some k) →
      exec .endFieldDominantBit s = .next (s.setLne { s.lne with phase := .gap 0, part := .none, rx := none })) ∧
    ∀ s : State, (∀ k, s.lne.phase ≠ .frame (some k)) → exec .endFieldDominantBit s = .next s

/-- In IDLE, RUNNING and not suspended. CLAIMING: the first CLAIM of the routine queue, and nothing without one.
ACTIVE with an entry in flight at the head of its queue: that entry again, its counts as they were and the ring
pointer still. ACTIVE with none in flight: the head of the queue that the ring slot names, or of the other when that
one is empty; it becomes in flight with its expected set and nothing delivered, and the pointer goes to the next of
the eight slots. The station contends with the entry's frame: its kind, urgency, sender, address and length, its
body, which is the sequence number of an acknowledged kind and then the kind's fields in their order and widths, and
its check. With both queues empty, in LISTEN_ONLY, while suspended or in another phase nothing happens. The expected
set of an address, at a station whose peer table holds no entry for its own number, holds the station k of 1 … 30
exactly when: by number, k is that number and not the own one; for the mask 0xFF, peer k is PRESENT; for any other
mask, peer k is PRESENT and its known roles share one with the mask. Bits 0 and 31 are never in it. -/
def Obligations.SendOpportunity : Prop :=
  (∀ s : State, s.maySend = false ∨ s.pcu.mode = .listenOnly ∨
        (s.pcu.mode = .active ∧ s.obq.air = [] ∧ s.obq.routine = []) ∨
        (s.pcu.mode = .claiming ∧ ∀ e ∈ s.obq.routine, e.isClaim = false) →
      exec .sendOpportunity s = .next s) ∧
    (∀ (s : State) (a : List QueueEntry) (e : QueueEntry) (b : List QueueEntry), s.maySend = true →
      s.pcu.mode = .claiming → s.obq.routine = a ++ e :: b → (∀ x ∈ a, x.isClaim = false) → e.isClaim = true →
      ∃ t, exec .sendOpportunity s = .next t ∧ s.attempting t e ∧
        t.obq = { s.obq with routine := a ++ (if e.inFlight then e else s.launched e) :: b } ∧
        t = (s.setLne t.lne).setObq t.obq) ∧
    (∀ (s : State) (e : QueueEntry) (l : List QueueEntry), s.maySend = true → s.pcu.mode = .active →
      s.obq.air = e :: l ∨ (∀ x ∈ s.obq.air, x.inFlight = false) ∧ s.obq.routine = e :: l → e.inFlight = true →
      e.isClaim = false →
      ∃ t, exec .sendOpportunity s = .next t ∧ s.attempting t e ∧ t = s.setLne t.lne) ∧
    (∀ s : State, s.maySend = true → s.pcu.mode = .active →
      (∀ e ∈ s.obq.air, e.inFlight = false) → (∀ e ∈ s.obq.routine, e.inFlight = false) →
      (∀ e l, s.obq.air = e :: l → s.values.ring.getLsbD s.obq.ringPointer = true ∨ s.obq.routine = [] →
        ∃ t, exec .sendOpportunity s = .next t ∧ s.attempting t e ∧
          t.obq = { s.obq with air := s.launched e :: l, ringPointer := (s.obq.ringPointer + 1) % 8 } ∧
          t = (s.setLne t.lne).setObq t.obq) ∧
      (∀ e l, s.obq.routine = e :: l → s.values.ring.getLsbD s.obq.ringPointer = false ∨ s.obq.air = [] →
        ∃ t, exec .sendOpportunity s = .next t ∧ s.attempting t e ∧
          t.obq = { s.obq with routine := s.launched e :: l, ringPointer := (s.obq.ringPointer + 1) % 8 } ∧
          t = (s.setLne t.lne).setObq t.obq)) ∧
    ∀ (s : State) (a : Address), s.pcu.peer s.pcu.ownNumber = none →
      inSet (s.expectedSet a) 0 = false ∧ inSet (s.expectedSet a) 31 = false ∧
        ∀ k, 1 ≤ k → k ≤ 30 →
          (a.byNumber = true →
            (inSet (s.expectedSet a) k = true ↔ (a.value &&& 0x1F).toNat = k ∧ k ≠ s.pcu.ownNumber)) ∧
          (a.byNumber = false → a.value = 0xFF →
            (inSet (s.expectedSet a) k = true ↔ ∃ p, s.pcu.peer k = some p ∧ p.presence = .present)) ∧
          (a.byNumber = false → a.value ≠ 0xFF →
            (inSet (s.expectedSet a) k = true ↔
              ∃ p r, s.pcu.peer k = some p ∧ p.presence = .present ∧ p.roles = some r ∧ r &&& a.value ≠ 0))

/-- SEND_OPPORTUNITY at an ACTIVE station with a TAKE in flight or unsent at the head of the air queue and the ring
naming AIR: the body of the frame that is driven is the sequence number, the item, the lead, the late flag and the
carried duration, where the lead is A - now and the flag clear when that is 0 … 255, and the lead is 0 and the flag
set when A is before now. ATTEMPT_SENT for an own TAKE at the head of the air queue, its record superseded by one
for another item and no attempt of it sent before, while a take of another item is pending: the record is placed
again, for A, or for now + 1 with the late flag when A is at or before now; the take that was pending is superseded,
with its event. (Its carried duration is the frame's as submitted, the model's reading of R36: log entry 32; its
sender is the number held now, its choice: log entry 45.) -/
def Obligations.OwnTakeOnTheLine : Prop :=
  (∀ (s : State) (e : QueueEntry) (l : List QueueEntry) (i : ItemId) (d : Nat) (A : Count), s.maySend = true →
    s.pcu.mode = .active → s.obq.air = e :: l → e.payload = .take i d A →
    (e.inFlight = true ∨ (∀ x ∈ s.obq.air ++ s.obq.routine, x.inFlight = false) ∧
      s.values.ring.getLsbD s.obq.ringPointer = true) →
    ∃ t w, exec .sendOpportunity s = .next t ∧ t.lne.tx = some w ∧
      (0 ≤ Count.diff s.now A → Count.diff s.now A ≤ 255 →
        w.body = [e.sequence.getD 0] ++ be 2 i.toNat ++ be 1 (Count.diff s.now A).toNat ++ [0] ++ be 3 d) ∧
      (Count.diff s.now A < 0 → w.body = [e.sequence.getD 0] ++ be 2 i.toNat ++ [0] ++ [1] ++ be 3 d)) ∧
    ∀ (s : State) (slots : StationSet) (e : QueueEntry) (f : Flight) (l : List QueueEntry) (i : ItemId) (d : Nat) (A : Count)
      (old : PendingTake), s.Drives .air e f l → e.payload = .take i d A → e.superseded = true → e.sentOnce = false →
      s.tke.pendingTake = some old → old.item ≠ i →
      ∃ t, exec (.attemptSent slots) s = .next t ∧
        t.tke = { s.tke with pendingTake := some (
          { item := i, air := if Count.atOrBefore A s.now then s.now + 1 else A, arrival := s.now,
            sender := s.pcu.ownNumber, sequence := e.sequence.getD 0, carried := d,
            late := Count.atOrBefore A s.now, made := false }) } ∧
        t.posted (.takeSuperseded old.item old.air i (if Count.atOrBefore A s.now then s.now + 1 else A) s.pcu.ownNumber
          .superseded) ∧ t.rls = s.rls ∧ t.fsc = s.fsc ∧ t.fck = s.fck

/-- CONTENTION_LOST while a frame is driven, of which some bit times have been read: bits that all read as sent are
counted, and from the ninth, the last of the arbitration field, the station is SENDING. At the first bit sent
recessive and read dominant: within the arbitration field the station listens, drives nothing, and nothing else
changes: queues, counts and sets stay; after it a CLAIM for candidate k, within its 75 bit times with the identity,
loses: the station listens, the CLAIM is gone from the routine queue, and the candidate is refused: one try more; at
30 LISTEN_ONLY with claim-failed; else the next candidate, 30 followed by 1, is claimed, at once when the queue has
room. Any other difference, or a dominant bit sent and read recessive, is a collision, and the state is the one that
COLLISION leaves. Without an attempt under way nothing changes. (That a CLAIM counts as SENDING from the ninth bit
is the model's choice: log entry 14, and so is the last clause: log entry 4.) -/
def Obligations.ContentionLost : Prop :=
  (∀ (s : State) (w : Wire) (bits : List Bool), s.running = true → s.driving = true → s.lne.tx = some w →
      let sent : List Bool := (w.bits.drop s.lne.read).map (!·)
      (bits <+: sent → exec (.contentionLost bits) s = .next (s.setLne { s.lne with
        part := if 9 ≤ s.lne.read + bits.length then .sending else s.lne.part, read := s.lne.read + bits.length })) ∧
      ∀ l r : List Bool,
        (bits = l ++ true :: r → l ++ [false] <+: sent →
          (s.lne.read + l.length < 9 → ∃ t, exec (.contentionLost bits) s = .next t ∧ s.listens t ∧ t = s.setLne t.lne) ∧
          (9 ≤ s.lne.read + l.length → w.frameKind ≠ some .claim ∨ 75 ≤ s.lne.read + l.length →
            exec (.contentionLost bits) s = exec .collision s)) ∧
        (bits = l ++ false :: r → l ++ [true] <+: sent → exec (.contentionLost bits) s = exec .collision s)) ∧
    (∀ (s : State) (k : Nat) (a : List QueueEntry) (e : QueueEntry) (b : List QueueEntry) (f : Flight) (w : Wire)
        (l r : List Bool), s.Claims k a e b f → s.lne.tx = some w →
      l ++ [false] <+: (w.bits.drop s.lne.read).map (!·) → 9 ≤ s.lne.read + l.length → s.lne.read + l.length < 75 →
      ∃ t, exec (.contentionLost (l ++ true :: r)) s = .next t ∧ s.listens t ∧
        s.candidateRefused t k (a ++ b) ∧ t.rls = s.rls ∧ t.tke = s.tke ∧ t.fck = s.fck ∧ t.fsc = s.fsc ∧
        t.obq.air = s.obq.air ∧ t.pcu.peers = s.pcu.peers) ∧
    ∀ (bits : List Bool) (s : State), s.running = false ∨ s.driving = false → exec (.contentionLost bits) s = .next s

/-- COLLISION of an attempt of the entry at the head of the air queue, or of the routine queue with none of the air
queue in flight: the station listens. Below 1 + the retry limit counted attempts the entry stays with one more and
its sets as they were, and nothing else changes. At the limit the entry leaves the queue: a kind that is
acknowledged posts SEND_RESULT INCOMPLETE with the attempts, the delivered and the missing set, and a missing set
that is not empty raises send-incomplete; any other kind is DROPPED and raises send-incomplete: a SWEEP writes a
sweep result DROPPED, with no station ready and the expected set not ready, with its event, by which a guarded take
is decided as SweepDecidesGuardedTake says; a POLL ends its poll NO_ANSWER of cause DROPPED with its event, a STATUS
or an ANNOUNCE does no more. A CLAIM in a claim for candidate k: below the limit it stays in its place with one
attempt more; at the limit the candidate is refused. (INCOMPLETE for an empty missing set is read from the table's
words: log entry 13.) -/
def Obligations.CollisionCounts : Prop :=
  (∀ (s : State) (q : QueueName) (e : QueueEntry) (f : Flight) (l : List QueueEntry), s.Drives q e f l →
      ∃ t, exec .collision s = .next t ∧ s.listens t ∧
        (f.attempts + 1 < 1 + s.values.retryLimit →
          s.headKept t q { e with flight := some { f with attempts := f.attempts + 1 } } l ∧
          t = (s.setLne t.lne).setObq t.obq) ∧
        (1 + s.values.retryLimit ≤ f.attempts + 1 → (e.payload.kind = .sweep → s.tke.guarded = none) →
          s.headDone t q l ∧ t.rls = s.rls ∧ t.fsc = s.fsc ∧ t.fck = s.fck ∧ t.tmc = s.tmc ∧
          (e.payload.kind.acknowledged = true → t.tke = s.tke ∧
            t.posted (.sendResult e.payload.kind (e.sequence.getD 0) e.address (f.attempts + 1) f.delivered
              (f.expected &&& ~~~ f.delivered) .incomplete) ∧
            (f.expected &&& ~~~ f.delivered ≠ 0 → t.eqp.flag .sendIncomplete = true)) ∧
          (e.payload.kind.acknowledged = false → t.eqp.flag .sendIncomplete = true))) ∧
    (∀ (s : State) (q : QueueName) (e : QueueEntry) (f : Flight) (l : List QueueEntry), s.Drives q e f l →
      1 + s.values.retryLimit ≤ f.attempts + 1 →
      ∃ t, exec .collision s = .next t ∧
        (∀ i, e.payload = .sweep i → s.tke.guarded = none → t.tke = s.tke ∧
          t.pcu = { s.pcu with sweep := some (
            { item := i, outcome := .dropped, expected := f.expected, ready := 0, notReady := f.expected,
              count := s.now }) } ∧
          t.posted (.sweepResult i .dropped f.expected 0 f.expected)) ∧
        (∀ i g, q = .air → e.payload = .sweep i → s.tke.guarded = some g →
          t.pcu = { s.pcu with sweep := some (
            { item := i, outcome := .dropped, expected := f.expected, ready := 0, notReady := f.expected,
              count := s.now }) } ∧
          t.posted (.sweepResult i .dropped f.expected 0 f.expected) ∧ t.rls = s.rls ∧ t.fsc = s.fsc ∧ t.fck = s.fck ∧
          s.guardDecided t g i f.expected l) ∧
        (∀ k, e.payload = .poll → s.pcu.poll = .queued k → t.tke = s.tke ∧
          t.pcu = { s.pcu with
            poll := .idle, pollResult := some { target := k, cause := .dropped, count := s.now, body := none } } ∧
          t.posted (.pollResult k .dropped none)) ∧
        (e.payload.kind = .status ∨ e.payload.kind = .announce → t = ((s.setLne t.lne).setObq t.obq).setEqp t.eqp)) ∧
    ∀ (s : State) (k : Nat) (a : List QueueEntry) (e : QueueEntry) (b : List QueueEntry) (f : Flight), s.Claims k a e b f →
      ∃ t, exec .collision s = .next t ∧ s.listens t ∧
        (f.attempts + 1 < 1 + s.values.retryLimit →
          t.obq = { s.obq with routine := a ++ { e with flight := some { f with attempts := f.attempts + 1 } } :: b } ∧
          t = (s.setLne t.lne).setObq t.obq) ∧
        (1 + s.values.retryLimit ≤ f.attempts + 1 → s.candidateRefused t k (a ++ b) ∧ t.eqp.flag .sendIncomplete = true ∧
          t.rls = s.rls ∧ t.tke = s.tke ∧ t.fck = s.fck ∧ t.fsc = s.fsc ∧ t.obq.air = s.obq.air ∧
          t.pcu.peers = s.pcu.peers)

/-- ATTEMPT_SENT for an acknowledged frame at the head of the air queue (a TAKE whose record was not superseded
among them), or of the routine queue with none of the air queue in flight (DROP, FLOAT, RESTORE, LOCKOUT, RELEASE):
the answered set joins the delivered set and the attempt is counted. When no expected station is missing the entry
leaves the queue and SEND_RESULT COMPLETE is posted; otherwise at 1 + the retry limit it leaves with INCOMPLETE and
send-incomplete; otherwise it stays in flight with both written. Every station that answered is PRESENT with no
misses, last heard now; each missing one of a frame that is done has one miss more, up to 15, and is ABSENT from the
absent limit on; one that was not ABSENT raises peer-absent; every other entry stays. PEER_CHANGE is posted for each
presence that changes, with its cause (ANSWERED or MISSED), and for none that does not. The line is at the end
field, the part NONE (log entry 11). -/
def Obligations.AttemptSentAcknowledged : Prop :=
  ∀ (s : State) (slots : StationSet) (q : QueueName) (e : QueueEntry) (f : Flight) (l : List QueueEntry), s.Drives q e f l →
    e.payload.kind.acknowledged = true → (e.payload.kind = .take → e.superseded = false ∨ e.sentOnce = true) →
    s.pcu.peers.length = 30 →
    ∃ t, exec (.attemptSent slots) s = .next t ∧
      t.lne = { s.lne with phase := .frame (some 0), part := .none, tx := none, read := 0 } ∧ t.rls = s.rls ∧ t.tke = s.tke ∧
      t.fsc = s.fsc ∧ t.fck = s.fck ∧
      (∀ k, inSet (s.answered slots) k = true →
        s.heardPeer t k ∧ s.becomes t k .present .answered (s.pcu.peer k)) ∧
      s.onlyTrueChanges t ∧
      let delivered := f.delivered ||| s.answered slots
      let missing := f.expected &&& ~~~ delivered
      (∀ k, inSet (s.answered slots) k = false → inSet missing k = false ∨ f.attempts + 1 < 1 + s.values.retryLimit →
        t.pcu.peer k = s.pcu.peer k) ∧
      (missing = 0 → s.headDone t q l ∧
        t.posted (.sendResult e.payload.kind (e.sequence.getD 0) e.address (f.attempts + 1) delivered 0 .complete)) ∧
      (missing ≠ 0 → f.attempts + 1 < 1 + s.values.retryLimit →
        s.headKept t q { e with
          flight := some { f with attempts := f.attempts + 1, delivered := delivered }, sentOnce := true } l) ∧
      (missing ≠ 0 → 1 + s.values.retryLimit ≤ f.attempts + 1 →
        s.headDone t q l ∧ t.eqp.flag .sendIncomplete = true ∧
        t.posted (.sendResult e.payload.kind (e.sequence.getD 0) e.address (f.attempts + 1) delivered missing .incomplete) ∧
        ∀ k, 1 ≤ k → k ≤ 30 → inSet missing k = true →
          ∃ p, t.pcu.peer k = some p ∧
            p.misses = min 15 ((match s.pcu.peer k with | some o => o.misses | none => 0) + 1) ∧
            (s.values.absentLimit ≤ p.misses → p.presence = .absent ∧ s.becomes t k .absent .missed (s.pcu.peer k) ∧
              (s.pcu.presence k ≠ .absent → t.eqp.flag .peerAbsent = true)) ∧
            (p.misses < s.values.absentLimit → p.presence = s.pcu.presence k))

/-- ATTEMPT_SENT for a SWEEP at the head of the air queue: the entry leaves, and the sweep result holds the expected
set, the answered set as ready, and the expected stations that did not answer as not ready, with its event; every
station that answered is PRESENT, heard now. With no guarded take the Take Engine stays. A guarded take ends with
it: for another item it is refused ITEM_MISMATCH. Else TAKE_IGNORED with its item and take-ignored, for the first
of: the station not ACTIVE, or not throughout since the request (the model's reading: log entry 41), NOT_ACTIVE; a
LOCAL state and the TAKE input's take, LOCAL (one of a request is not refused by it); an item that was in the list
at the request and is not now, ITEM_GONE. Else GUARD_REFUSED with the not-ready set when a not-ready peer has a
known role of the guard mask. Else, with the air queue full, TAKE_IGNORED QUEUE_FULL; with room, its TAKE for the
address of the request, tail of the queue with the counter's number, and its record: for max(L, 1) frames from now,
with the carried duration of the request, or, without one, the item's own, 0 for an item not in the list; pending,
but against a take for the same item that is not later, which stays; a take of another item is superseded, with its
event. -/
def Obligations.SweepDecidesGuardedTake : Prop :=
  ∀ (s : State) (slots : StationSet) (e : QueueEntry) (f : Flight) (l : List QueueEntry) (i : ItemId), s.Drives .air e f l →
    e.payload = .sweep i → s.pcu.peers.length = 30 →
    ∃ t, exec (.attemptSent slots) s = .next t ∧
      let ready := s.answered slots
      let notReady := f.expected &&& ~~~ ready
      t.pcu.sweep = some { item := i, outcome := .sent, expected := f.expected, ready := ready, notReady := notReady,
                           count := s.now } ∧
      t.posted (.sweepResult i .sent f.expected ready notReady) ∧ t.tke.guarded = none ∧ t.rls = s.rls ∧ t.fsc = s.fsc ∧
      (∀ k, inSet ready k = true → s.heardPeer t k ∧ s.becomes t k .present .answered (s.pcu.peer k)) ∧
      (s.tke.guarded = none → t.tke = s.tke ∧ t.obq = { s.obq with air := l }) ∧
      ∀ g, s.tke.guarded = some g → s.guardDecided t g i notReady l

/-- ATTEMPT_SENT for a POLL in flight at the head of the routine queue, with no entry of the air queue in flight:
the entry leaves; the poll of k becomes AWAITING until now + the poll timeout when slot k reads dominant, and else
ends NO_ANSWER of cause NOT_ACCEPTED with its event. For the CLAIM of a candidate k of 1 … 30: slot k dominant
refuses the candidate; slot k recessive wins it: the own number is k, the mode ACTIVE, the tries 0, no candidate, no
peer entry for k, and, with room, an ANNOUNCE to all joins the routine queue. CLAIM_RESUBMIT with a CLAIM that waits
for room: with room it joins the tail for the candidate and none waits; at capacity it still waits; with none
waiting nothing changes. -/
def Obligations.PollAndClaimOutcomes : Prop :=
  (∀ (s : State) (slots : StationSet) (e : QueueEntry) (f : Flight) (l : List QueueEntry) (k : Nat),
      s.Drives .routine e f l → e.payload = .poll → s.pcu.poll = .queued k →
      ∃ t, exec (.attemptSent slots) s = .next t ∧ t.obq.air = s.obq.air ∧ t.obq.routine = l ∧ t.tke = s.tke ∧
        (inSet (s.answered slots) k = true →
          t.pcu.poll = .awaiting k (s.now + BitVec.ofNat 32 s.values.pollTimeout) ∧
            t.pcu.pollResult = s.pcu.pollResult) ∧
        (inSet (s.answered slots) k = false → t.pcu.poll = .idle ∧
          t.pcu.pollResult = some { target := k, cause := .notAccepted, count := s.now, body := none } ∧
          t.posted (.pollResult k .notAccepted none))) ∧
    (∀ (s : State) (slots : StationSet) (k : Nat) (a : List QueueEntry) (e : QueueEntry) (b : List QueueEntry) (f : Flight),
      s.Claims k a e b f → 1 ≤ k → k ≤ 30 → s.pcu.ownNumber = 0 →
      ∃ t, exec (.attemptSent slots) s = .next t ∧ t.tke = s.tke ∧ t.rls = s.rls ∧ t.obq.air.length = s.obq.air.length ∧
        (slots.getLsbD k = true → s.candidateRefused t k (a ++ b)) ∧
        (slots.getLsbD k = false → t.pcu.ownNumber = k ∧ t.pcu.mode = .active ∧ t.pcu.tries = 0 ∧
          t.pcu.candidate = none ∧ t.pcu.peer k = none ∧
          ((a ++ b).length < 16 → t.obq.routine.map (·.payload) = (a ++ b).map (·.payload) ++
            [.announce s.pcu.identity s.values.roles s.tke.control s.tke.onAir.itemId (s.tke.standby.getD 0)]))) ∧
    (∀ (s : State) (l : List PulsePart) (k : Nat), s.running = true → noHandOff l → s.pulseRest = .claimResubmit :: l →
        s.pcu.claimWaiting = true → s.pcu.candidate = some k →
        ∃ t, exec .claimResubmit s = .next t ∧ t.rls = s.rls ∧ t.tke = s.tke ∧ t.fsc = s.fsc ∧ t.obq.air = s.obq.air ∧
          (s.obq.routine.length < 16 → t.pcu = { s.pcu with claimWaiting := false } ∧
            t.obq.routine.map (fun e => (e.payload, e.address)) =
              s.obq.routine.map (fun e => (e.payload, e.address)) ++
                [(.claim k s.pcu.identity s.values.roles, toNumber k)]) ∧
          (16 ≤ s.obq.routine.length → t.pcu = s.pcu ∧ t.obq = s.obq)) ∧
      ∀ (s : State) (l : List PulsePart), s.running = true → s.pulseRest = .claimResubmit :: l →
        s.pcu.claimWaiting = false → exec .claimResubmit s = .next s

/-- For a heard frame of any of the eighteen kinds (commands TAKE_FRAME to CLAIM_FRAME, SWEEP_FRAME and
ANNOUNCE_FRAME among them), received while no own frame is driven: unless it is a CLAIM or bears the own number, the
sender is PRESENT with no misses, last heard now; an ANNOUNCE writes its identity, its roles and, when they lie in
their codes, its control state and item IDs, and a STATUS its control state. Every other station whose slot reads
dominant is PRESENT with no misses. A CLAIM for k whose slot reads recessive rewrites the entry of k, not the own
one, from the frame. Every other entry stays. A frame other than a CLAIM that bears the own number k posts
NUMBER_CONFLICT, raises its flag, makes k the previous number and begins a claim at k; a guarded take is marked as
one whose station was not ACTIVE throughout (log entry 41), and the list, the rest of the Take Engine, the clock,
the fire queue and the entry of k stay, also when slot k reads dominant (the model's reading: log entry 47).
PEER_CHANGE is posted for each presence that changes, HEARD, ANSWERED or CLAIMED, with the presences before and
after and the roles and identity of the entry (in the order of log entry 43), and for none that does not; a sender
heard for the first time by an ANNOUNCE has them absent there (the model's choice: log entry 18). -/
def Obligations.CensusAndConflict : Prop :=
  ∀ (kd : Kind) (f : RxFrame) (s : State), s.mayReceive = true → f.wire.heardAs kd = true → s.pcu.peers.length = 30 →
    (kd ≠ .claim → f.wire.sender.toNat ≠ s.pcu.ownNumber →
      ∃ t, exec (frameCommand kd f) s = .next t ∧ s.sameStation t ∧ s.heardPeer t f.wire.sender.toNat ∧
        s.becomes t f.wire.sender.toNat .present .heard (s.pcu.peer f.wire.sender.toNat) ∧ s.onlyTrueChanges t ∧
        (∀ k, inSet (s.answered f.slots) k = true → s.heardPeer t k ∧
          (k ≠ f.wire.sender.toNat → s.becomes t k .present .answered (s.pcu.peer k))) ∧
        (∀ k, inSet (s.answered f.slots) k = false → k ≠ f.wire.sender.toNat → t.pcu.peer k = s.pcu.peer k) ∧
        ∀ p, t.pcu.peer f.wire.sender.toNat = some p →
          (kd = .announce → p.identity = some (field48 f.wire.body 0) ∧ p.roles = some (byteAt f.wire.body 6) ∧
            ∀ c, Control.ofCode (byteAt f.wire.body 7) = some c → field16 f.wire.body 8 ≠ 0xFFFF →
              field16 f.wire.body 10 ≠ 0xFFFF →
              p.control = some c ∧ p.onAir = some (field16 f.wire.body 8) ∧ p.standby = some (field16 f.wire.body 10)) ∧
          (kd = .status → ∀ c, Control.ofCode (byteAt f.wire.body 0) = some c → p.control = some c)) ∧
    (kd = .claim →
      ∃ t, exec (.claimFrame f) s = .next t ∧ s.sameWork t ∧ s.onlyTrueChanges t ∧
        (∀ k, inSet (s.answered f.slots) k = true →
          s.heardPeer t k ∧ s.becomes t k .present .answered (s.pcu.peer k)) ∧
        (∀ k, inSet (s.answered f.slots) k = false → k ≠ f.wire.sender.toNat → t.pcu.peer k = s.pcu.peer k) ∧
        (inSet f.slots f.wire.sender.toNat = false → f.wire.sender.toNat ≠ s.pcu.ownNumber →
          s.becomes t f.wire.sender.toNat .present .claimed (t.pcu.peer f.wire.sender.toNat) ∧
          t.pcu.peer f.wire.sender.toNat = some
            { presence := .present, roles := some (byteAt f.wire.body 6), identity := some (field48 f.wire.body 0),
              control := none, onAir := none, standby := none, lastSequence := none, misses := 0,
              lastHeard := some s.now })) ∧
    (kd ≠ .claim → s.pcu.ownNumber ≠ 0 → f.wire.sender.toNat = s.pcu.ownNumber →
      ∃ t, exec (frameCommand kd f) s = .next t ∧ t.pcu.ownNumber = 0 ∧ t.pcu.previous = s.pcu.ownNumber ∧
        t.pcu.mode = .claiming ∧ t.pcu.candidate = some s.pcu.ownNumber ∧ t.pcu.tries = 0 ∧
        t.posted (.numberConflict s.pcu.ownNumber kd) ∧ t.eqp.flag .numberConflict = true ∧
        (s.obq.routine.length < 16 → t.obq.routine.map (·.payload) = s.obq.routine.map (·.payload) ++
          [.claim s.pcu.ownNumber s.pcu.identity s.values.roles]) ∧
        t.obq.air = s.obq.air ∧ t.rls = s.rls ∧ t.fck = s.fck ∧ t.fsc = s.fsc ∧ t.sul = s.sul ∧
        t.tke = { s.tke with guarded := s.tke.guarded.map fun g => { g with lapsed := true } } ∧
        s.onlyTrueChanges t ∧
        ∀ k, (inSet (s.answered f.slots) k = true →
            s.heardPeer t k ∧ s.becomes t k .present .answered (s.pcu.peer k)) ∧
          (inSet (s.answered f.slots) k = false → t.pcu.peer k = s.pcu.peer k))

/-- For a heard frame of any of the eighteen kinds (commands TAKE_FRAME to CLAIM_FRAME, SWEEP_FRAME and
ANNOUNCE_FRAME among them) that bears no own number (or is a CLAIM): the decision kept is to accept exactly when the
station is ACTIVE, is addressed (by its number, or by a mask that is 0xFF or shares a role with it) and the kind's
test passes: a SWEEP when the station is ready, that is not in a LOCAL state, and the item not in its list, without
elements, or with every needs-ready element ready and two free entries for each primable and one for each other
element; a CLAIM for the own number; a CUE at FLOOR and an ATTENTION at DIRECTOR alone; a POLL by number; a STATUS
that is awaited from its sender; TAKE, CLEAR, STANDBY, HOLD, RESUME, STRETCH, DROP, FLOAT, RESTORE, LOCKOUT, RELEASE
and ANNOUNCE by their fields alone; and each with the item IDs, codes and duration it carries in range. The line
stands at the end field, with the own part NONE (R103 does not say when it ends, here or for a frame not heard: the
model's choice, log entry 11); the station keeps its number, mode, clock and values. A frame that is not accepted,
an acknowledged one that repeats the last sequence of its sender, and any SWEEP, ANNOUNCE or CLAIM leaves the list,
the Take Engine, the timing, the fire queue, the lines and the outbound queues. An accepted acknowledged frame
leaves its sequence as its sender's last. A frame that is not heard changes the Line Engine alone and has no
decision. -/
def Obligations.AcceptanceDecision : Prop :=
  (∀ (kd : Kind) (f : RxFrame) (s : State), s.mayReceive = true → f.wire.heardAs kd = true → s.pcu.peers.length = 30 →
      f.wire.sender.toNat ≠ s.pcu.ownNumber ∨ kd = .claim →
      ∃ t, exec (frameCommand kd f) s = .next t ∧ s.sameStation t ∧ t.lne.phase = .frame (some 0) ∧ t.lne.part = .none ∧
        (∃ r, t.lne.rx = some r ∧ r.wire = f.wire ∧
          (r.accepted = some true ↔ s.pcu.mode = .active ∧ s.isAddressed f.wire ∧ s.passesTest f.wire kd) ∧
          r.accepted ≠ none) ∧
        ((¬(s.pcu.mode = .active ∧ s.isAddressed f.wire ∧ s.passesTest f.wire kd) ∨
            kd.acknowledged = true ∧ s.isRepeat f.wire ∨ kd = .sweep ∨ kd = .announce ∨ kd = .claim) →
          s.sameWork t) ∧
        (s.pcu.mode = .active → s.isAddressed f.wire → s.passesTest f.wire kd → kd.acknowledged = true →
          ∃ p, t.pcu.peer f.wire.sender.toNat = some p ∧ p.lastSequence = some (byteAt f.wire.body 0))) ∧
    ∀ (f : RxFrame) (s : State), s.running = true → s.driving = false → f.wire.heard = false →
      ∃ t, exec (.frameNotHeard f) s = .next t ∧ t = s.setLne t.lne ∧ t.lne.phase = .frame (some 0) ∧
        t.lne.part = .none ∧ t.lne.rx = some { wire := f.wire, check := f.wire.computed, accepted := none }

/-- TAKE_FRAME accepted and no repeat: the record has the item, the sender, the sequence and the carried duration of
the frame, the arrival now, and the air frame c + lead, where c is the count at the pulse that began the period of
the start bit; with the late flag set, or when that is at or before now, the air frame is now + 1 and the record is
late. With no take pending it is pending; against one for the same item the earlier air frame stays, the one held
when they are equal; against another item it is pending and TAKE_SUPERSEDED is posted, and the own TAKE whose record
was the one superseded, while its frame stands in the air queue, bears the model's mark of that (log entry 9), and
no other. List, fire queue and timing stay. -/
def Obligations.TakeFramePlacesATake : Prop :=
  ∀ (f : RxFrame) (s : State), s.HearsNew .take f → s.pcu.peers.length = 30 → validItem (field16 f.wire.body 1) = true →
    (field24 f.wire.body 5).toNat ≤ 262143 →
    let A : Count := s.now - BitVec.ofNat 32 f.startAgo + BitVec.ofNat 32 (byteAt f.wire.body 3).toNat
    let late : Bool := (byteAt f.wire.body 4).getLsbD 0 || Count.atOrBefore A s.now
    let r : PendingTake :=
      { item := field16 f.wire.body 1, air := if late then s.now + 1 else A, arrival := s.now,
        sender := f.wire.sender.toNat, sequence := byteAt f.wire.body 0, carried := (field24 f.wire.body 5).toNat,
        late := late, made := false }
    ∃ t, exec (.takeFrame f) s = .next t ∧ s.sameStation t ∧ t.rls = s.rls ∧ t.fsc = s.fsc ∧ t.tmc = s.tmc ∧
      (s.tke.pendingTake = none → t.tke = { s.tke with pendingTake := some r } ∧ t.obq = s.obq) ∧
      ∀ old, s.tke.pendingTake = some old →
        (old.item = r.item → t.obq = s.obq ∧
          t.tke = if Count.before r.air old.air then { s.tke with pendingTake := some r } else s.tke) ∧
        (old.item ≠ r.item → t.tke = { s.tke with pendingTake := some r } ∧
          t.obq = (if old.made then
            { s.obq with air := s.obq.air.map fun e => if e.tied then { e with superseded := true } else e } else s.obq) ∧
          t.posted (.takeSuperseded old.item old.air r.item r.air r.sender .superseded))

/-- CLEAR_FRAME accepted and no repeat, in a sound list with the pointers in step: no take is pending (its discard
is posted), none is guarded (TAKE_IGNORED CLEARED is posted), the standby item is released and the slot empty; the
on-air pointer, the last-aired position and the control state stay. Of the own on-air item each element that had an
entry, and each HELD one of a held item, is SKIPPED, the held flag is clear, and state, air start and the other
elements stay. No entry of either item is left, every held line is INACTIVE and every other line stays; other items
stay. (That the prime frame of an element that goes from HELD to SKIPPED is absent, and that TAKE_IGNORED CLEARED
names the guarded item, is the model's reading and its choice: log entries 22 and 15.) -/
def Obligations.ClearFrameClears : Prop :=
  ∀ (f : RxFrame) (s : State), s.HearsNew .clear f → s.runListSound → s.pointersSound →
    ∃ t, exec (.clearFrame f) s = .next t ∧ s.sameStation t ∧ s.clearedBy t ∧ t.obq = s.obq

/-- STANDBY_FRAME accepted and no repeat for item X, in a sound list with the pointers in step. X WAITING, FLOATED
or AIRED: another standby item is released, X is STANDBY in the slot, its elements are cleared and, with room for
all, each primable one is SCHEDULED with a PRIME at now + 1 and each other IDLE; STANDBY_SET SET is posted and, when
a needs-ready element is not ready and the air queue has room, a NOT_READY ATTENTION to the directors joins it. X
STANDBY or ON_AIR: nothing but STANDBY_SET UNCHANGED or ON_AIR. X not in the list: the standby item is released, the
slot empty, NOT_HELD posted. The pending take, the pointer and the other items stay. -/
def Obligations.StandbyFrameStandsBy : Prop :=
  ∀ (f : RxFrame) (s : State), s.HearsNew .standby f → validItem (field16 f.wire.body 1) = true →
    s.runListSound → s.pointersSound →
    ∃ t, exec (.standbyFrame f) s = .next t ∧ s.sameStation t ∧
      s.stoodBy t (field16 f.wire.body 1) f.wire.sender.toNat

/-- HOLD_FRAME accepted and no repeat for the own ON_AIR item, not held, of a sound list: the item is held; each
element SCHEDULED, PRIMED or SUPPRESSED with a GO entry is HELD with the remainder due - now, at least 1, its prime
frame and the rest kept, and has no entry left; the others stay. RESUME_FRAME for it while held, with two free
entries an element: it is not held; each HELD element with remainder r has a GO at now + r and is PRIMED when it has
a prime frame, and otherwise is placed unprimed for now + r and SCHEDULED; the remainder is absent; the others stay.
For any other item, a HOLD of a held item and a RESUME of one not held have no effect. -/
def Obligations.HoldAndResume : Prop :=
  ∀ (f : RxFrame) (s : State), validItem (field16 f.wire.body 1) = true →
    (s.HearsNew .hold f →
      ∃ t, exec (.holdFrame f) s = .next t ∧ s.sameStation t ∧ s.heldBy t (field16 f.wire.body 1)) ∧
    (s.HearsNew .resume f →
      ∃ t, exec (.resumeFrame f) s = .next t ∧ s.sameStation t ∧ s.resumedBy t (field16 f.wire.body 1))

/-- STRETCH_FRAME accepted and no repeat, for item X with delta D. X FOREIGN on the air: the carried duration, and
that of a pending take for X, become d + D, clamped to 0 … 262,143. X in a sound list: its planned duration does;
APPLIED when it changed and NO_CHANGE when not; when it is ON_AIR and changed, with room, each END-anchored
SCHEDULED or PRIMED element has a GO for its due S + P - offset, or now + 1 when that is at or before now: PRIMED
with a prime frame Q, a GO alone, at the later of the due and Q + p; else as the pre-roll allows, with the PRIME of
a primable one, SCHEDULED. Its late frames are those of that GO, the item's are raised to them, and with one above 0
pre-roll-short is set and, ACTIVE with room, a PREROLL_SHORT ATTENTION to the directors joins the air queue; other
entries, fields and items stay. X pending alone: its carried duration. Otherwise nothing changes, with NO_SUCH_ITEM.
EDIT_HEARD is posted with sender, item, delta and outcome, and the timing recomputed when it is APPLIED. -/
def Obligations.StretchFrameStretches : Prop :=
  ∀ (f : RxFrame) (s : State), s.HearsNew .stretch f → validItem (field16 f.wire.body 1) = true →
    ∃ t, exec (.stretchFrame f) s = .next t ∧ s.sameStation t ∧
      s.stretchedBy t (field16 f.wire.body 1) (field16 f.wire.body 3).toInt f.wire.sender.toNat

/-- CUE_FRAME accepted and no repeat (a FLOOR station, a stage code of at most 5). For the item on the air, own or
foreign: a stage CLEAR to OVER is in force for that item and is the effective stage; AUTO takes the override away
and the stage is the one that the recomputation gives. The lamps show it: LW for WRAP and OVER, LF for FINAL, LO for
OUT and OVER; a stage that differs from the one last held is posted in CUE_STAGE. For any other item, or none on the
air, the timing stays. List, Take Engine, fire queue and queues stay. -/
def Obligations.CueFrameForcesAStage : Prop :=
  ∀ (f : RxFrame) (s : State), s.HearsNew .cue f → s.hasRole floorBit = true →
    validItem (field16 f.wire.body 1) = true → (byteAt f.wire.body 3).toNat ≤ 5 →
    ∃ t, exec (.cueFrame f) s = .next t ∧ s.sameStation t ∧
      s.cuedBy t (field16 f.wire.body 1) (byteAt f.wire.body 3)

/-- ATTENTION_FRAME accepted and no repeat at a DIRECTOR: a record of its sender and reason gets the item and one
count more, up to 15, in its place; else with fewer than 16 records one is added at the end, count 1, first arrival
now; else the list stays and attention-list-full is set. ATTENTION_IN is posted with the outcome and the count,
attention-in is set. ACK ATTENTION: sender 0 removes all; a pair held removes its record, the rest in order; a pair
not held is NO_SUCH_ITEM; a sender above 30 or an unknown reason of a pair BAD_FIELD; the flags stay. -/
def Obligations.AttentionList : Prop :=
  (∀ (f : RxFrame) (s : State) (r : Reason), s.HearsNew .attention f → s.hasRole directorBit = true →
      Reason.ofCode (byteAt f.wire.body 1) = some r → field16 f.wire.body 2 ≠ 0xFFFF →
      let k := f.wire.sender.toNat
      let X : ItemId := field16 f.wire.body 2
      ∃ t, exec (.attentionFrame f) s = .next t ∧ s.sameWork t ∧ t.eqp.flag .attentionIn = true ∧
        (∀ (n : Nat) (a : AttentionRecord), s.pcu.attention[n]? = some a → a.sender = k → a.reason = r →
          (∀ (m : Nat) (b : AttentionRecord), s.pcu.attention[m]? = some b → b.sender = k → b.reason = r → m = n) →
          t.pcu.attention = s.pcu.attention.set n { a with item := X, count := min 15 (a.count + 1) } ∧
            t.posted (.attentionIn k r X .counted (min 15 (a.count + 1)))) ∧
        ((∀ a ∈ s.pcu.attention, ¬(a.sender = k ∧ a.reason = r)) →
          (s.pcu.attention.length < 16 →
            t.pcu.attention = s.pcu.attention ++ [{ sender := k, reason := r, item := X, count := 1, first := s.now }] ∧
              t.posted (.attentionIn k r X .new 1)) ∧
          (16 ≤ s.pcu.attention.length → t.pcu.attention = s.pcu.attention ∧ t.eqp.flag .attentionListFull = true ∧
            t.posted (.attentionIn k r X .notRecorded 0)))) ∧
    ∀ (k c : Byte) (s : State), s.portReady →
      ∃ t, exec (.ackAttention k c) s = .next t ∧ t.eqp.flags = s.eqp.flags ∧
        t = (s.setPcu { s.pcu with attention := t.pcu.attention }).setEqp t.eqp ∧
        (k = 0 → t.pcu.attention = [] ∧ t.offers 0x16 .done []) ∧
        (30 < k.toNat ∨ k ≠ 0 ∧ Reason.ofCode c = none →
          t.pcu.attention = s.pcu.attention ∧ t.offers 0x16 .badField []) ∧
        ∀ r, Reason.ofCode c = some r → 1 ≤ k.toNat → k.toNat ≤ 30 →
          t.pcu.attention = s.pcu.attention.filter (fun a => !(a.sender == k.toNat && a.reason == r)) ∧
          ((∃ a ∈ s.pcu.attention, a.sender = k.toNat ∧ a.reason = r) → t.offers 0x16 .done []) ∧
          ((∀ a ∈ s.pcu.attention, ¬(a.sender = k.toNat ∧ a.reason = r)) → t.offers 0x16 .noSuchItem [])

/-- DROP_FRAME, FLOAT_FRAME and RESTORE_FRAME accepted and no repeat, in a sound list with the pointers in step. An
item not in the list: nothing changes, NO_SUCH_ITEM. DROP and FLOAT of the ON_AIR item: nothing changes,
REFUSED_ON_AIR. DROP: the item is removed as DELETE ITEM removes it, with cause DROPPED; APPLIED. FLOAT: WAITING and
STANDBY become FLOATED, the latter released first; RESTORE: FLOATED becomes WAITING; APPLIED when the state changed,
else NO_CHANGE. EDIT_HEARD is posted with the sender, the item, the delta 0 (which R19 gives for STRETCH alone: the
model's choice, log entry 25) and the outcome, and the timing recomputed when it is APPLIED. -/
def Obligations.LineEdits : Prop :=
  ∀ (kd : Kind) (f : RxFrame) (s : State), kd = .drop ∨ kd = .float ∨ kd = .restore → s.HearsNew kd f →
    validItem (field16 f.wire.body 1) = true → s.runListSound → s.pointersSound →
    ∃ t, exec (frameCommand kd f) s = .next t ∧ s.sameStation t ∧
      s.editedBy t kd (field16 f.wire.body 1) f.wire.sender.toNat

/-- LOCKOUT_FRAME and RELEASE_FRAME accepted and no repeat, SET CONTROL taken, and the recognised transitions of
LOCAL handed on move the control state by the table. A change posts CONTROL_CHANGE with old and new state and cause
(and the sender of a frame) and, with room in the routine queue, an ANNOUNCE with the new state joins it; no change
leaves the Take Engine and the queues. SET CONTROL completes DONE with or without a change; in REMOTE_LOCKED a local
request leaves everything but the port as it was, posts CONTROL_CHANGE REFUSED_LOCKED, and completes LOCKED when it
is a request and offers nothing when it is the input; a later RELEASE therefore leaves REMOTE. Another field is
BAD_FIELD. The input acts by its transitions alone: these hand-offs are the only place where it is read. -/
def Obligations.ControlStates : Prop :=
  (∀ (f : RxFrame) (s : State),
      (s.HearsNew .lockout f → ∃ t, exec (.lockoutFrame f) s = .next t ∧ s.sameStation t ∧
        s.controlTo t s.tke.control.lockedOut .lockout f.wire.sender.toNat) ∧
      (s.HearsNew .release f → ∃ t, exec (.releaseFrame f) s = .next t ∧ s.sameStation t ∧
        s.controlTo t s.tke.control.released .release f.wire.sender.toNat)) ∧
    (∀ s : State, s.portReady →
      (∃ t, exec (.setControl 0) s = .next t ∧ s.controlTo t s.tke.control.localReleased .request 0 ∧
        t.offers 0x0D .done []) ∧
      (∃ t, exec (.setControl 1) s = .next t ∧ s.controlTo t s.tke.control.localRequested .request 0 ∧
        t.offers 0x0D (if s.tke.control = .remoteLocked then .locked else .done) [] ∧
        (s.tke.control = .remoteLocked → s.sameButPort t ∧
          t.posted (.controlChange .remoteLocked .remoteLocked .refusedLocked 0))) ∧
      ∀ v : Byte, v ≠ 0 → v ≠ 1 → ∃ t, exec (.setControl v) s = .next t ∧ s.sameButPort t ∧ t.offers 0x0D .badField []) ∧
    ∀ s : State,
      s.controlTo (s.handOff .localOn) s.tke.control.localRequested .input 0 ∧
      s.controlTo (s.handOff .localOff) s.tke.control.localReleased .input 0 ∧
      (s.handOff .localOn).eqp.response = s.eqp.response ∧ (s.handOff .localOff).eqp.response = s.eqp.response ∧
      (s.tke.control = .remoteLocked → s.sameButPort (s.handOff .localOn) ∧
        (s.handOff .localOn).posted (.controlChange .remoteLocked .remoteLocked .refusedLocked 0))

/-- LOAD ITEM taken: an item or anchor ID out of range, a hard out of D or more, or a basis above 1 is BAD_FIELD; an
ID in the list DUPLICATE; an anchor not in the list NO_SUCH_ITEM; a list of 96 STORE_FULL; each leaves everything
but the port. Otherwise DONE: the new item, WAITING with its duration clamped to 262,143, its hard out and basis,
nothing run and no element, stands first or directly after the anchor, the others in their order; the timing is
recomputed; Take Engine, fire queue and outbound queues stay. -/
def Obligations.LoadItem : Prop :=
  ∀ (item : ItemId) (duration hardOut : BitVec 24) (basis : Byte) (anchor : ItemId) (s : State), s.portReady →
    let bad := item = 0 ∨ item = 0xFFFF ∨ anchor = 0xFFFF ∨ (hardOut ≠ 0xFFFFFF ∧ s.day ≤ hardOut.toNat) ∨ 1 < basis.toNat
    let new : Item :=
      { id := item, duration := min 262143 duration.toNat, state := .waiting,
        hardOut := if hardOut = 0xFFFFFF then none else some hardOut.toNat,
        basis := if basis = 1 then .segment else .item, airStart := none, actual := none, lateMark := false,
        lateFrames := 0, held := false, elements := [] }
    ∃ t, exec (.loadItem item duration hardOut basis anchor) s = .next t ∧
      (bad → s.sameButPort t ∧ t.offers 0x01 .badField []) ∧
      (¬bad → (s.findItem item).isSome = true → s.sameButPort t ∧ t.offers 0x01 .duplicate []) ∧
      (¬bad → s.findItem item = none → anchor ≠ 0 → s.findItem anchor = none →
        s.sameButPort t ∧ t.offers 0x01 .noSuchItem []) ∧
      (¬bad → s.findItem item = none → anchor = 0 ∨ (s.findItem anchor).isSome = true → 96 ≤ s.rls.items.length →
        s.sameButPort t ∧ t.offers 0x01 .storeFull []) ∧
      (¬bad → s.findItem item = none → s.rls.items.length < 96 →
        (anchor = 0 → t.rls.items = new :: s.rls.items) ∧
        (∀ (l r : List Item) (a : Item), anchor ≠ 0 → s.rls.items = l ++ a :: r → a.id = anchor →
          (∀ y ∈ l, y.id ≠ anchor) → t.rls.items = l ++ a :: new :: r) ∧
        (anchor = 0 ∨ (s.findItem anchor).isSome = true →
          t.offers 0x01 .done [] ∧ t.recomputed ∧ t.tke = s.tke ∧ t.fsc = s.fsc ∧ s.sameOutside t ∧ t.obq = s.obq))

/-- AMEND ITEM taken: an ID out of range, an action above 2, SET with D or more, or a basis above 2 is BAD_FIELD, an
item not in the list NO_SUCH_ITEM, each leaving everything but the port. Otherwise DONE: in a sound list the hard
out is SET, cleared or kept, the basis written or kept, the duration written, clamped to 262,143, or kept, with the
END elements of the ON_AIR item moved when it changed; nothing else of the item nor any other item changes; the
timing is recomputed. (That the hard out is looked at with SET alone, and that SET with 0xFFFFFF is BAD_FIELD, is
the model's reading of R10 and R190: log entry 16.) -/
def Obligations.AmendItem : Prop :=
  ∀ (item : ItemId) (duration : BitVec 24) (action : Byte) (hardOut : BitVec 24) (basis : Byte) (s : State),
    s.portReady → s.runListSound →
    let bad := item = 0 ∨ item = 0xFFFF ∨ 2 < action.toNat ∨ (action = 1 ∧ s.day ≤ hardOut.toNat) ∨ 2 < basis.toNat
    ∃ t, exec (.amendItem item duration action hardOut basis) s = .next t ∧
      (bad → s.sameButPort t ∧ t.offers 0x02 .badField []) ∧
      (¬bad → s.findItem item = none → s.sameButPort t ∧ t.offers 0x02 .noSuchItem []) ∧
      ∀ x, ¬bad → s.findItem item = some x → t.offers 0x02 .done [] ∧ t.recomputed ∧ s.sameOutside t ∧
        s.durationSet t x (if duration = 0xFFFFFF then x.duration else min 262143 duration.toNat) ∧
        ∀ y, t.findItem item = some y →
          y.hardOut = (if action = 1 then some hardOut.toNat else if action = 2 then none else x.hardOut) ∧
          y.basis = (if basis = 2 then x.basis else if basis = 1 then .segment else .item) ∧
          y.actual = x.actual ∧ y.lateMark = x.lateMark ∧ (x.state ≠ .onAir → y.lateFrames = x.lateFrames)

/-- Each taken in a sound list with the pointers in step. An ID out of range, or a move to the item itself, is
BAD_FIELD; an item, or a move's anchor, not in the list NO_SUCH_ITEM; DELETE and FLOAT of the ON_AIR item ON_AIR;
each leaves everything but the port. Otherwise DONE with the timing recomputed: the moved item stands first or
directly after the anchor with its record, the others in order, pointers and fire queue as they were; the deleted
item is removed, a pending take for it discarded with cause DELETED; the floated and the restored item change state
as the table says. -/
def Obligations.ItemEdits : Prop :=
  ∀ s : State, s.portReady → s.runListSound → s.pointersSound →
    (∀ item anchor : ItemId,
      let bad := item = 0 ∨ item = 0xFFFF ∨ anchor = 0xFFFF ∨ anchor = item
      ∃ t, exec (.moveItem item anchor) s = .next t ∧
        (bad → s.sameButPort t ∧ t.offers 0x03 .badField []) ∧
        (¬bad → s.findItem item = none ∨ (anchor ≠ 0 ∧ s.findItem anchor = none) →
          s.sameButPort t ∧ t.offers 0x03 .noSuchItem []) ∧
        ∀ x, ¬bad → s.findItem item = some x → anchor = 0 ∨ (s.findItem anchor).isSome = true →
          t.offers 0x03 .done [] ∧ t.recomputed ∧ t.tke = s.tke ∧ t.fsc = s.fsc ∧ s.sameOutside t ∧ t.obq = s.obq ∧
          (anchor = 0 → t.rls.items = x :: s.rls.items.filter (·.id != item)) ∧
          ∀ (l r : List Item) (a : Item), anchor ≠ 0 → s.rls.items.filter (·.id != item) = l ++ a :: r →
            a.id = anchor → t.rls.items = l ++ a :: x :: r) ∧
    ∀ item : ItemId,
      (item = 0 ∨ item = 0xFFFF →
        (∃ t, exec (.deleteItem item) s = .next t ∧ s.sameButPort t ∧ t.offers 0x04 .badField []) ∧
        (∃ t, exec (.floatRequest item) s = .next t ∧ s.sameButPort t ∧ t.offers 0x08 .badField []) ∧
        ∃ t, exec (.restoreRequest item) s = .next t ∧ s.sameButPort t ∧ t.offers 0x09 .badField []) ∧
      (item ≠ 0 → item ≠ 0xFFFF → s.findItem item = none →
        (∃ t, exec (.deleteItem item) s = .next t ∧ s.sameButPort t ∧ t.offers 0x04 .noSuchItem []) ∧
        (∃ t, exec (.floatRequest item) s = .next t ∧ s.sameButPort t ∧ t.offers 0x08 .noSuchItem []) ∧
        ∃ t, exec (.restoreRequest item) s = .next t ∧ s.sameButPort t ∧ t.offers 0x09 .noSuchItem []) ∧
      ∀ x, item ≠ 0 → item ≠ 0xFFFF → s.findItem item = some x →
        (x.state = .onAir →
          (∃ t, exec (.deleteItem item) s = .next t ∧ s.sameButPort t ∧ t.offers 0x04 .onAir []) ∧
          ∃ t, exec (.floatRequest item) s = .next t ∧ s.sameButPort t ∧ t.offers 0x08 .onAir []) ∧
        (x.state ≠ .onAir →
          (∃ t, exec (.deleteItem item) s = .next t ∧ s.itemRemoved t item .deleted ∧ s.sameOutside t ∧ t.obq = s.obq ∧
            t.recomputed ∧ t.offers 0x04 .done []) ∧
          ∃ t, exec (.floatRequest item) s = .next t ∧ s.itemFloated t x ∧ s.sameOutside t ∧ t.obq = s.obq ∧
            t.recomputed ∧ t.offers 0x08 .done []) ∧
        ∃ t, exec (.restoreRequest item) s = .next t ∧ s.itemRestored t x ∧ s.sameOutside t ∧ t.obq = s.obq ∧
          t.recomputed ∧ t.offers 0x09 .done []

/-- LOAD ELEMENT taken in a sound list: a field out of range is BAD_FIELD, an item not in the list NO_SUCH_ITEM, a
new ID in an item of 16 or a pool of 256 STORE_FULL, each leaving everything but the port. Otherwise DONE with its
state: the element has the fields of the request, its ready flag clear; the item's other elements and the other
items stay. With two free entries: off the air and not in standby it is IDLE; in the STANDBY item a primable one is
SCHEDULED with a PRIME at now + 1 and any other IDLE; in the ON_AIR item one due before now is SKIPPED, in a held
item one is HELD with what is left to its due, at least 1, and else it has a GO as its due (now + 1 for now) and
pre-roll allow. -/
def Obligations.LoadElement : Prop :=
  ∀ (item : ItemId) (element anchor : Byte) (offset : BitVec 16) (preRoll needsReady target : Byte) (duration : BitVec 16)
      (takeOff : Byte) (s : State), s.portReady → s.runListSound →
    let bad := item = 0 ∨ item = 0xFFFF ∨ element = 0 ∨ 16 < element.toNat ∨ 1 < anchor.toNat ∨ 1 < needsReady.toNat ∨
      1 < takeOff.toNat ∨ ¬(target.toNat ≤ 8 ∨ 16 ≤ target.toNat ∧ target.toNat ≤ 23)
    ∃ t, exec (.loadElement item element anchor offset preRoll needsReady target duration takeOff) s = .next t ∧
      (bad → s.sameButPort t ∧ t.offers 0x05 .badField []) ∧
      (¬bad → s.findItem item = none → s.sameButPort t ∧ t.offers 0x05 .noSuchItem []) ∧
      ∀ x, ¬bad → s.findItem item = some x →
        let full := (∀ e ∈ x.elements, e.id ≠ element.toNat) ∧ (x.elements.length = 16 ∨ poolUsed s.rls.items = 256)
        (full → s.sameButPort t ∧ t.offers 0x05 .storeFull []) ∧
        (¬full → ∃ y e, t.findItem item = some y ∧ t.offers 0x05 .done [e.state.code] ∧ t.recomputed ∧ t.tke = s.tke ∧
          s.sameOutside t ∧ s.otherItems t (some item) none ∧ y.state = x.state ∧ y.duration = x.duration ∧
          (∀ z, z.id ≠ element.toNat → (z ∈ y.elements ↔ z ∈ x.elements)) ∧
          (∀ z, z ∈ y.elements ∧ z.id = element.toNat ↔ z = e) ∧
          e.anchor = (if anchor = 1 then .ending else .start) ∧ e.offset = offset.toNat ∧ e.preRoll = preRoll.toNat ∧
          e.needsReady = decide (needsReady = 1) ∧ e.ready = false ∧ e.target.code = target ∧
          e.duration = duration.toNat ∧ e.takeOff = (if takeOff = 1 then .force else .cancel) ∧ e.primeFrame = none ∧
          (s.fsc.queue.length ≤ 30 →
            (x.state ≠ .standby → x.state ≠ .onAir → e.state = .idle ∧ e.late = 0 ∧ e.remainder = none) ∧
            (x.state = .standby → e.state = (if preRoll = 0 then .idle else .scheduled) ∧
              (preRoll ≠ 0 → (⟨s.now + 1, .prime, item, element.toNat⟩ : FireEntry) ∈ t.fsc.queue)) ∧
            ∀ S, x.state = .onAir → x.airStart = some S →
              let D : Count := if anchor = 1 then S + BitVec.ofNat 32 (x.duration - offset.toNat)
                else S + BitVec.ofNat 32 offset.toNat
              let D' : Count := if D = s.now then s.now + 1 else D
              (Count.before D s.now = true → e.state = .skipped ∧ e.late = 0 ∧
                ∀ g ∈ t.fsc.queue, g.item = item → g.element = element.toNat → ∀ z ∈ x.elements, z.id ≠ element.toNat) ∧
              (Count.before D s.now = false → x.held = true → e.state = .held ∧
                e.remainder = some (max 1 (Count.diff s.now D).toNat)) ∧
              (Count.before D s.now = false → x.held = false → e.state = .scheduled ∧
                (⟨goFrame preRoll.toNat (s.now + 1) D', .go, item, element.toNat⟩ : FireEntry) ∈ t.fsc.queue)))

/-- Each taken in a sound list: an ID out of range (or a value above 1) is BAD_FIELD, an item not in the list
NO_SUCH_ITEM, an element not in the item NO_SUCH_ELEMENT; each leaves everything but the port. DELETE ELEMENT,
otherwise, DONE: the element is gone from its item and its entries from the fire queue, with RELEASE posted if it
was PRIMED, and the fire lines stay; the timing is recomputed. SET READY, otherwise, DONE: the flag of the element
has the value, and the timing is not recomputed (the model's reading of R10 and R60: log entry 24). Nothing else of
the list changes. -/
def Obligations.ElementRequests : Prop :=
  ∀ (item : ItemId) (element value : Byte) (s : State), s.portReady → s.runListSound →
    let bad := item = 0 ∨ item = 0xFFFF ∨ element = 0 ∨ 16 < element.toNat
    ∃ t u, exec (.deleteElement item element) s = .next t ∧ exec (.setReady item element value) s = .next u ∧
      (bad → s.sameButPort t ∧ t.offers 0x06 .badField []) ∧
      (bad ∨ 1 < value.toNat → s.sameButPort u ∧ u.offers 0x07 .badField []) ∧
      (¬bad → s.findItem item = none → s.sameButPort t ∧ t.offers 0x06 .noSuchItem [] ∧
        (value.toNat ≤ 1 → s.sameButPort u ∧ u.offers 0x07 .noSuchItem [])) ∧
      ∀ x, ¬bad → s.findItem item = some x →
        ((∀ e ∈ x.elements, e.id ≠ element.toNat) → s.sameButPort t ∧ t.offers 0x06 .noSuchElement [] ∧
          (value.toNat ≤ 1 → s.sameButPort u ∧ u.offers 0x07 .noSuchElement [])) ∧
        ∀ e ∈ x.elements, e.id = element.toNat →
          (t.offers 0x06 .done [] ∧ t.recomputed ∧ t.tke = s.tke ∧ s.sameOutside t ∧ t.obq = s.obq ∧
            s.otherItems t (some item) none ∧
            t.findItem item = some { x with elements := x.elements.filter (·.id != element.toNat) } ∧
            t.fsc = { s.fsc with queue := s.fsc.queue.filter fun g => !(g.item == item && g.element == element.toNat) } ∧
            (e.state = .primed → t.posted (.release item element.toNat))) ∧
          (value.toNat ≤ 1 → u.offers 0x07 .done [] ∧ s.otherItems u (some item) none ∧
            u.findItem item = some { x with elements := x.elements.map fun z =>
              if z.id = element.toNat then { z with ready := decide (value = 1) } else z } ∧
            u = (s.setRls u.rls).setEqp u.eqp)

/-- SEND taken. A kind that may not be sent, an address mode above 1, a mask of 0, a number outside 1 … 30 or the
own one, a POLL to a mask, a CUE or an ATTENTION to another mask than its role's, a forced option above 1, an item
ID, a stage or a reason out of range is BAD_FIELD (for a mode above 1 and a number of 32 or more the model's
reading: log entry 16); a good TAKE at a station that is not ACTIVE is NOT_ACTIVE; a POLL while one is outstanding
is BUSY; each leaves everything but the port. A TAKE at an ACTIVE station: BUSY while a guarded take waits, with
TAKE_IGNORED SWEEPING naming the item (the model's choice: log entry 15); unguarded or forced, QUEUE_FULL at 8, and
else, with no take pending, a take of it is pending for max(lead, 1) frames from now with the carried duration
given, clamped to 262,143 (the model's choice: log entry 44), or the item's own for KEEP, and its TAKE, alone tied
to that record (log entry 9), stands at the tail for the address given, with the number that the response carries
behind a presence byte (log entry 48); guarded, with no unsent SWEEP, QUEUE_FULL at 8, and else the take waits for
the result of a SWEEP to all stations at the tail, and the response carries no number (the model's reading: log
entry 48). CLEAR and POLL are NOT_ACTIVE too. A CLEAR to any good address, with room after it, removes the unsent
STANDBY, TAKE, HOLD, RESUME and CUE entries, each posted PURGED, stands behind the entry in flight or at the head,
and clears this station; without, QUEUE_FULL. A POLL of another station joins and is outstanding, or is QUEUE_BUSY
while BUSY or QUEUE_FULL at 16. (The other kinds: SendJoinsAndActs.) -/
def Obligations.SendRequests : Prop :=
  ∀ s : State, s.portReady →
    (∀ (kind mode address forced : Byte) (body : List Byte),
      13 ≤ kind.toNat ∧ kind ≠ 14 ∧ kind ≠ 15 ∨ 1 < mode.toNat ∨ mode = 0 ∧ address = 0 ∨
          mode = 1 ∧ (address = 0 ∨ 30 < address.toNat ∨ address.toNat = s.pcu.ownNumber) ∨ 1 < forced.toNat ∨
          kind = 12 ∧ mode = 0 ∨ kind = 6 ∧ mode = 0 ∧ address ≠ 0x40 ∨ kind = 8 ∧ mode = 0 ∧ address ≠ 1 ∨
          kind.toNat ≤ 11 ∧ kind ≠ 1 ∧ kind ≠ 8 ∧ (field16 body 0 = 0 ∨ field16 body 0 = 0xFFFF) ∨
          kind = 6 ∧ 5 < (byteAt body 2).toNat ∨ kind = 8 ∧ (3 < (byteAt body 0).toNat ∨ field16 body 1 = 0xFFFF) →
      ∃ t, exec (.send kind mode address forced body) s = .next t ∧ s.sameButPort t ∧ t.offers 0x0A .badField []) ∧
    (∀ (item : ItemId) (lead : Byte) (duration : BitVec 24) (mode address forced : Byte), item ≠ 0 → item ≠ 0xFFFF →
      s.goodAddress (.take item 0 0) mode address → forced.toNat ≤ 1 →
      let a : Address := ⟨mode == 1, address⟩
      let given : Option Nat := if duration = 0xFFFFFF then none else some (min 262143 duration.toNat)
      ∃ t, exec (.send 0 mode address forced (be 2 item.toNat ++ [lead] ++ be 3 duration.toNat)) s = .next t ∧
        (s.pcu.mode ≠ .active → s.sameButPort t ∧ t.offers 0x0A .notActive []) ∧
        (s.pcu.mode = .active →
          (s.tke.guarded ≠ none → s.sameButPort t ∧ t.offers 0x0A .busy [] ∧ t.posted (.takeIgnored .sweeping item) ∧
            t.eqp.flag .takeIgnored = true) ∧
          (s.tke.guarded = none → forced = 1 ∨ s.values.guard = false →
            (8 ≤ s.obq.air.length → s.sameButPort t ∧ t.offers 0x0A .queueFull []) ∧
            (s.obq.air.length < 8 → s.tke.pendingTake = none → t.offers 0x0A .done [1, s.obq.sequence] ∧ t.rls = s.rls ∧
              t.fsc = s.fsc ∧ t.obq.routine = s.obq.routine ∧ t.obq.sequence = s.obq.sequence + 1 ∧
              let A : Count := s.now + BitVec.ofNat 32 (max lead.toNat 1)
              let d : Nat := given.getD (match s.findItem item with | some x => x.duration | none => 0)
              t.tke = { s.tke with pendingTake := some (
                { item := item, air := A, arrival := s.now, sender := s.pcu.ownNumber, sequence := s.obq.sequence,
                  carried := d, late := false, made := true }) } ∧
              t.obq.air.map (fun e => (e.payload, e.address, e.sequence, e.tied)) =
                s.obq.air.map (fun e => (e.payload, e.address, e.sequence, false)) ++
                  [(.take item d A, a, some s.obq.sequence, true)])) ∧
          (s.tke.guarded = none → forced = 0 → s.values.guard = true →
            (∀ e ∈ s.obq.air, e.flight = none → ∀ j, e.payload ≠ .sweep j) →
            (8 ≤ s.obq.air.length → s.sameButPort t ∧ t.offers 0x0A .queueFull []) ∧
            (s.obq.air.length < 8 → t.offers 0x0A .done [0, 0] ∧ t.rls = s.rls ∧ t.fsc = s.fsc ∧
              t.obq.sequence = s.obq.sequence ∧
              t.tke = { s.tke with guarded := some (
                { item := item, wasOwn := (s.findItem item).isSome, origin := .send,
                  terms := { address := a, lead := lead.toNat, carried := given }, lapsed := false }) } ∧
              t.obq.air.map (fun e => (e.payload, e.address, e.sequence)) =
                s.obq.air.map (fun e => (e.payload, e.address, e.sequence)) ++ [(.sweep item, toAll, none)])))) ∧
    (∀ k forced : Byte, 1 ≤ k.toNat → k.toNat ≤ 30 → k.toNat ≠ s.pcu.ownNumber → forced.toNat ≤ 1 →
      ∃ t, exec (.send 12 1 k forced []) s = .next t ∧
        (s.pcu.mode ≠ .active → s.sameButPort t ∧ t.offers 0x0A .notActive []) ∧
        (s.pcu.mode = .active →
          (s.pcu.poll ≠ .idle → s.sameButPort t ∧ t.offers 0x0A .busy []) ∧
          (s.pcu.poll = .idle →
            (s.obq.backpressure = .busy → s.sameButPort t ∧ t.offers 0x0A .queueBusy []) ∧
            (s.obq.backpressure = .admitting → 16 ≤ s.obq.routine.length →
              s.sameButPort t ∧ t.offers 0x0A .queueFull []) ∧
            (s.obq.backpressure = .admitting → s.obq.routine.length < 16 → t.offers 0x0A .done [0, 0] ∧
              t.pcu = { s.pcu with poll := .queued k.toNat } ∧ t.obq.sequence = s.obq.sequence ∧ t.obq.air = s.obq.air ∧
              t.obq.routine.map (fun e => (e.payload, e.address)) =
                s.obq.routine.map (fun e => (e.payload, e.address)) ++ [(.poll, toNumber k.toNat)] ∧
              t.rls = s.rls ∧ t.tke = s.tke ∧ t.fsc = s.fsc)))) ∧
    ∀ mode address forced : Byte, s.goodAddress .clear mode address → forced.toNat ≤ 1 →
      let c : Payload × Address × Option Byte := (.clear, ⟨mode == 1, address⟩, some s.obq.sequence)
      let shown : QueueEntry → Payload × Address × Option Byte := fun e => (e.payload, e.address, e.sequence)
      ∃ t, exec (.send 1 mode address forced []) s = .next t ∧
        (s.pcu.mode ≠ .active → s.sameButPort t ∧ t.offers 0x0A .notActive []) ∧
        (s.pcu.mode = .active →
          (8 ≤ (s.obq.air.filter fun e => !removable e).length → s.sameButPort t ∧ t.offers 0x0A .queueFull []) ∧
          ((s.obq.air.filter fun e => !removable e).length < 8 → t.offers 0x0A .done [1, s.obq.sequence] ∧
            t.obq.sequence = s.obq.sequence + 1 ∧ t.obq.routine = s.obq.routine ∧
            (∀ e ∈ s.obq.air, removable e = true → t.posted (purgedEvent e)) ∧
            t.obq.air.map shown =
              (match s.obq.air.filter fun e => !removable e with
                | [] => [c]
                | e :: r => if e.inFlight then shown e :: c :: r.map shown else c :: (e :: r).map shown) ∧
            s.sameStation t ∧ (s.runListSound → s.pointersSound → s.clearedBy t)))

/-- SEND taken of a STANDBY, HOLD, RESUME, STRETCH, CUE, SWEEP, ATTENTION, DROP, FLOAT, RESTORE, LOCKOUT or RELEASE
whose fields and address are in range. At a station that is not ACTIVE it is NOT_ACTIVE. At an ACTIVE one, with an
unsent entry of the air queue that it replaces (a STANDBY, a SWEEP, a CUE for the same item) or merges with (a
STRETCH for the same item, the deltas added and clamped), the first such entry is rewritten in its place with its
number kept; otherwise, with room, the frame joins the tail of its queue, with the counter's number when it is
acknowledged; the response carries the number of an acknowledged kind behind a presence byte (log entry 48). Without
room it is QUEUE_FULL, and QUEUE_BUSY, first, in the routine queue while BUSY, each leaving everything but the port.
The completed SEND then acts on this station as the frame acts where it is heard, in a sound list with the pointers
in step: STANDBY, HOLD, RESUME, STRETCH, DROP, FLOAT and RESTORE in the list and on the air, a CUE at a FLOOR
station, the others not at all; the queues get nothing more but the ATTENTIONs that this raises. (EDIT_HEARD with
delta 0 for DROP, FLOAT and RESTORE is the model's choice: log entry 25.) -/
def Obligations.SendJoinsAndActs : Prop :=
  ∀ (p : Payload) (mode address forced : Byte) (s : State), s.portReady → p.sendable → s.goodAddress p mode address →
    forced.toNat ≤ 1 →
    let a : Address := ⟨mode == 1, address⟩
    let command : Instr := .send (BitVec.ofNat 8 (kindList.idxOf p.kind)) mode address forced (sendBody p)
    (s.pcu.mode ≠ .active → ∃ t, exec command s = .next t ∧ s.sameButPort t ∧ t.offers 0x0A .notActive []) ∧
    (s.pcu.mode = .active →
      (∀ (l r : List QueueEntry) (e : QueueEntry), s.obq.air = l ++ e :: r → e.flight = none → p.replaces e.payload →
        (∀ x ∈ l, x.flight = none → ¬p.replaces x.payload) → s.runListSound → s.pointersSound →
        ∃ u t, exec command s = .next t ∧ t.offers 0x0A .done (fieldBytes (optionFields 1 (e.sequence.map BitVec.toNat))) ∧
          s.rewritten u l.length e p a ∧
          u.actedOn t p ∧ u.sameOutside t ∧ u.onlyAttentions t) ∧
      ((∀ x ∈ s.obq.air, x.flight = none → ¬p.replaces x.payload) →
        ∃ t, exec command s = .next t ∧
          (p.kind.urgency ≤ 2 → 8 ≤ s.obq.air.length → s.sameButPort t ∧ t.offers 0x0A .queueFull []) ∧
          (2 < p.kind.urgency → s.obq.backpressure = .busy → s.sameButPort t ∧ t.offers 0x0A .queueBusy []) ∧
          (2 < p.kind.urgency → s.obq.backpressure = .admitting → 16 ≤ s.obq.routine.length →
            s.sameButPort t ∧ t.offers 0x0A .queueFull []) ∧
          ((p.kind.urgency ≤ 2 ∧ s.obq.air.length < 8 ∨
              2 < p.kind.urgency ∧ s.obq.backpressure = .admitting ∧ s.obq.routine.length < 16) →
            s.runListSound → s.pointersSound →
            t.offers 0x0A .done
              (fieldBytes (optionFields 1 (if p.kind.acknowledged then some s.obq.sequence.toNat else none))) ∧
            ∃ u, s.joined u p a ∧ u.actedOn t p ∧ u.sameOutside t ∧ u.onlyAttentions t)))

/-- Each taken. Not ACTIVE is NOT_ACTIVE. TAKE NEXT with a field above 1 is BAD_FIELD; while a guarded take waits it
is BUSY, with TAKE_IGNORED SWEEPING; without a next item NO_SUCH_ITEM; with a full air queue (and, guarded, no
unsent SWEEP in it) QUEUE_FULL, nothing placed; else DONE: unguarded or forced, a take for max(lead, 1) frames from
now is pending (when none was) and its TAKE in the queue; guarded, the take waits for the result, and its SWEEP is
at the tail, or in the place of the first unsent one, which it rewrites. STANDBY NEXT without a WAITING item after
the current position is NO_SUCH_ITEM; else, with room and no unsent STANDBY, its STANDBY joins the queue and the
item is STANDBY here. CALL with 65,535 is BAD_FIELD; with a full queue QUEUE_FULL; else its ATTENTION to the
directors joins the queue. (That TAKE_IGNORED SWEEPING of TAKE NEXT carries item ID 0 is the model's choice: log
entry 15; that CALL tests BAD_FIELD before NOT_ACTIVE, its reading: log entry 38.) -/
def Obligations.NextRequests : Prop :=
  ∀ s : State, s.portReady →
    (∀ forced : Byte,
      ∃ t, exec (.takeNext forced) s = .next t ∧
        (1 < forced.toNat → s.sameButPort t ∧ t.offers 0x0B .badField []) ∧
        (forced.toNat ≤ 1 → s.pcu.mode ≠ .active → s.sameButPort t ∧ t.offers 0x0B .notActive []) ∧
        (forced.toNat ≤ 1 → s.pcu.mode = .active →
          (s.tke.guarded ≠ none → s.sameButPort t ∧ t.offers 0x0B .busy [] ∧ t.posted (.takeIgnored .sweeping 0) ∧
            t.eqp.flag .takeIgnored = true) ∧
          (s.tke.guarded = none → s.nextItem = none → s.sameButPort t ∧ t.offers 0x0B .noSuchItem []) ∧
          ∀ i, s.tke.guarded = none → s.nextItem = some i →
            ((forced = 1 ∨ s.values.guard = false) →
              (8 ≤ s.obq.air.length → s.sameButPort t ∧ t.offers 0x0B .queueFull []) ∧
              (s.obq.air.length < 8 → s.tke.pendingTake = none → t.offers 0x0B .done [] ∧ t.rls = s.rls ∧
                t.fsc = s.fsc ∧ t.obq.routine = s.obq.routine ∧ t.obq.sequence = s.obq.sequence + 1 ∧
                let A : Count := s.now + BitVec.ofNat 32 (max s.values.takeLead 1)
                ∃ d, (∀ x, s.findItem i = some x → d = x.duration) ∧
                  t.tke = { s.tke with pendingTake := some (
                    { item := i, air := A, arrival := s.now, sender := s.pcu.ownNumber, sequence := s.obq.sequence,
                      carried := d, late := false, made := true }) } ∧
                  t.obq.air.map (fun e => (e.payload, e.address, e.sequence)) =
                    s.obq.air.map (fun e => (e.payload, e.address, e.sequence)) ++
                      [(.take i d A, toAll, some s.obq.sequence)])) ∧
            (forced = 0 → s.values.guard = true →
              let shown : QueueEntry → Payload × Address × Option Byte := fun e => (e.payload, e.address, e.sequence)
              let waits : Prop := t.offers 0x0B .done [] ∧ t.rls = s.rls ∧ t.fsc = s.fsc ∧
                t.obq.routine = s.obq.routine ∧ t.obq.sequence = s.obq.sequence ∧
                t.tke = { s.tke with guarded := some (
                  { item := i, wasOwn := (s.findItem i).isSome, origin := .takeNext,
                    terms := { address := toAll, lead := s.values.takeLead, carried := none }, lapsed := false }) }
              ((∀ e ∈ s.obq.air, e.flight = none → ∀ j, e.payload ≠ .sweep j) →
                (8 ≤ s.obq.air.length → s.sameButPort t ∧ t.offers 0x0B .queueFull []) ∧
                (s.obq.air.length < 8 →
                  waits ∧ t.obq.air.map shown = s.obq.air.map shown ++ [(.sweep i, toAll, none)])) ∧
              ∀ (l r : List QueueEntry) (e : QueueEntry) (j : ItemId), s.obq.air = l ++ e :: r → e.flight = none →
                e.payload = .sweep j → (∀ x ∈ l, x.flight = none → ∀ m, x.payload ≠ .sweep m) →
                waits ∧ t.obq.air.map shown = l.map shown ++ (.sweep i, toAll, e.sequence) :: r.map shown))) ∧
    (∃ t, exec .standbyNext s = .next t ∧
      (s.pcu.mode ≠ .active → s.sameButPort t ∧ t.offers 0x0C .notActive []) ∧
      (s.pcu.mode = .active → (∀ x ∈ s.afterPosition, x.state ≠ .waiting) →
        s.sameButPort t ∧ t.offers 0x0C .noSuchItem []) ∧
      ∀ (l r : List Item) (x : Item), s.pcu.mode = .active → s.runListSound → s.pointersSound →
        s.afterPosition = l ++ x :: r → x.state = .waiting → (∀ y ∈ l, y.state ≠ .waiting) →
        (∀ e ∈ s.obq.air, ∀ j, e.payload ≠ .standby j) → s.obq.air.length < 8 →
        t.offers 0x0C .done [] ∧ t.recomputed ∧ t.tke = { s.tke with standby := some x.id } ∧ s.standbyReleased t ∧
          s.otherItems t (some x.id) s.tke.standby ∧ (∃ y, t.findItem x.id = some y ∧ y.state = .standby) ∧
          t.posted (.standbySet x.id s.pcu.ownNumber .set) ∧
          ∃ tail, t.obq.air.map (fun e => (e.payload, e.address, e.sequence)) =
            s.obq.air.map (fun e => (e.payload, e.address, e.sequence)) ++
              (.standby x.id, toAll, some s.obq.sequence) :: tail) ∧
    ∀ item : ItemId,
      ∃ t, exec (.call item) s = .next t ∧
        (item = 0xFFFF → s.sameButPort t ∧ t.offers 0x0F .badField []) ∧
        (item ≠ 0xFFFF → s.pcu.mode ≠ .active → s.sameButPort t ∧ t.offers 0x0F .notActive []) ∧
        (item ≠ 0xFFFF → s.pcu.mode = .active → 8 ≤ s.obq.air.length → s.sameButPort t ∧ t.offers 0x0F .queueFull []) ∧
        (item ≠ 0xFFFF → s.pcu.mode = .active → s.obq.air.length < 8 →
          t.offers 0x0F .done [] ∧ t = (s.setObq t.obq).setEqp t.eqp ∧
            t.obq.air.map (fun e => (e.payload, e.address, e.sequence)) =
              s.obq.air.map (fun e => (e.payload, e.address, e.sequence)) ++
                [(.attention .operatorCall item, toDirectors, some s.obq.sequence)])

/-- Each taken. READ ITEM by ID or by position of 1 to 96 answers DONE with the item's position, the count of the
list, every field of the item and of its elements, and the passed indication, which in a sound list says that the
item is WAITING before the current position; an ID out of range, a position of 0 or above 96 or another selector is
BAD_FIELD, an item or position not in the list NO_SUCH_ITEM. READ TIMING with no pulse under way answers DONE with
the five parts, of the Frame Clock, the Timing Computer for a page from 1 to 95, the Fire Scheduler, the Outbound
Queues and the Take Engine, else BAD_FIELD. READ PEERS, READ SWEEP, READ POLL, READ ATTENTION and READ RESTART
answer DONE with what the blocks hold. Everything but the port stays. The order and widths of the fields are those
of R190, and where its rules leave the layout open the model's reading (log entries 20 and 42). -/
def Obligations.ReadRequests : Prop :=
  ∀ s : State, s.portReady →
    (∀ (v : BitVec 16) (l r : List Item) (x : Item), s.rls.items = l ++ x :: r → (∀ y ∈ l, y.id ≠ x.id) →
      ∃ p : Bool, (s.runListSound → s.pointersSound → (p = true ↔ s.isPassed x)) ∧
        let answer := fieldBytes (x.fields (l.length + 1) s.rls.items.length p)
        (v = x.id → v ≠ 0 → v ≠ 0xFFFF →
          ∃ t, exec (.readItem 0 v) s = .next t ∧ s.sameButPort t ∧ t.offers 0x10 .done answer) ∧
        (v.toNat = l.length + 1 → v.toNat ≤ 96 →
          ∃ t, exec (.readItem 1 v) s = .next t ∧ s.sameButPort t ∧ t.offers 0x10 .done answer)) ∧
    (∀ (c : Byte) (v : BitVec 16), (c = 0 ∧ (v = 0 ∨ v = 0xFFFF)) ∨ (c = 1 ∧ (v = 0 ∨ 96 < v.toNat)) ∨ 1 < c.toNat →
      ∃ t, exec (.readItem c v) s = .next t ∧ s.sameButPort t ∧ t.offers 0x10 .badField []) ∧
    (∀ (c : Byte) (v : BitVec 16), (c = 0 ∧ v ≠ 0 ∧ v ≠ 0xFFFF ∧ s.findItem v = none) ∨
        (c = 1 ∧ v ≠ 0 ∧ v.toNat ≤ 96 ∧ s.rls.items.length < v.toNat) →
      ∃ t, exec (.readItem c v) s = .next t ∧ s.sameButPort t ∧ t.offers 0x10 .noSuchItem []) ∧
    (∀ k : Byte, s.pulseRest = [] →
      ∃ t, exec (.readTiming k) s = .next t ∧ s.sameButPort t ∧
        (1 ≤ k.toNat → k.toNat ≤ 95 → t.offers 0x11 .done
          (fieldBytes (s.clockPart ++ s.tmc.part k.toNat ++ s.firePart ++ s.queuePart ++ s.takePart))) ∧
        (k = 0 ∨ 95 < k.toNat → t.offers 0x11 .badField [])) ∧
    (∃ t, exec .readPeers s = .next t ∧ s.sameButPort t ∧ t.offers 0x12 .done (fieldBytes s.peerPart)) ∧
    (∃ t, exec .readSweep s = .next t ∧ s.sameButPort t ∧ t.offers 0x13 .done (fieldBytes s.pcu.sweepPart)) ∧
    (∃ t, exec .readPoll s = .next t ∧ s.sameButPort t ∧ t.offers 0x14 .done (fieldBytes s.pcu.pollPart)) ∧
    (∃ t, exec .readAttention s = .next t ∧ s.sameButPort t ∧ t.offers 0x15 .done (fieldBytes s.pcu.attentionPart)) ∧
    ∃ t, exec .readRestart s = .next t ∧ s.sameButPort t ∧ t.offers 0x1B .done (fieldBytes s.sul.record.fields)

/-- FETCH EVENTS taken: 0 or above 8 is BAD_FIELD and the FIFO stays. Otherwise DONE: the oldest records, as many as
the field allows and the FIFO holds, leave the FIFO and are returned oldest first, each as its 20 bytes (R191), with
the number still held (none and 0 from an empty one); the source flags, EVENTS and EVENT_OVERFLOW among them, the
overflow count and everything but the port stay (R173). The byte before the records that counts them is the model's
reading of R190 (DEDUCED, log entry 20). An event posted into a FIFO of fewer than 32 records joins at the tail with
the frame count now, the overflow count stays, and EVENTS is raised when the FIFO was empty; posted into a FIFO that
holds 32, it is discarded, the records held stay, the overflow count rises by one, saturating at 255, and
EVENT_OVERFLOW is raised (R172). Every other source flag and everything but the port stay at a post. -/
def Obligations.FetchEvents : Prop :=
  (∀ (n : Byte) (s : State), s.portReady →
      ∃ t, exec (.fetchEvents n) s = .next t ∧ s.sameButPort t ∧ t.eqp.flags = s.eqp.flags ∧
        t.eqp.overflows = s.eqp.overflows ∧
        (n = 0 ∨ 8 < n.toNat → t.eqp.fifo = s.eqp.fifo ∧ t.offers 0x17 .badField []) ∧
        (1 ≤ n.toNat → n.toNat ≤ 8 → ∃ out, s.eqp.fifo = out ++ t.eqp.fifo ∧
          out.length = min n.toNat s.eqp.fifo.length ∧
          t.offers 0x17 .done (be 1 out.length ++ out.flatMap EventRecord.layout ++ be 1 t.eqp.fifo.length))) ∧
    ∀ (ev : Event) (s : State), s.sameButPort (s.post ev) ∧
      (s.eqp.fifo.length < 32 →
        (s.post ev).eqp.fifo = s.eqp.fifo ++ [⟨s.fck.count, ev⟩] ∧ (s.post ev).eqp.overflows = s.eqp.overflows ∧
        ∀ f : SourceFlag,
          (s.post ev).eqp.flag f = true ↔ s.eqp.flag f = true ∨ f = .events ∧ s.eqp.fifo = []) ∧
      (32 ≤ s.eqp.fifo.length →
        (s.post ev).eqp.fifo = s.eqp.fifo ∧ (s.post ev).eqp.overflows = min 255 (s.eqp.overflows + 1) ∧
        ∀ f : SourceFlag, (s.post ev).eqp.flag f = true ↔ s.eqp.flag f = true ∨ f = .eventOverflow)

/-- FETCH SUMMARY taken, in every station mode: DONE with the group flags as they stood, the eighteen source flags,
the enables, the records held, the overflow and the overrun count; then every group flag is clear, the overruns 0
and ATN down; source flags, overflow count and FIFO stay. A source flag that is still set raises no group when it is
raised; once acknowledged it does. ACK FLAGS with a flag beyond the eighteen: BAD_FIELD, nothing cleared. Otherwise
DONE: each flag named is clear (EVENTS set again when records are held, which sets LINE), every other flag as it
was, the groups as they were but for that; naming EVENT_OVERFLOW sets the overflow count to 0; the response has the
flags, the groups and ATN as they then stand. -/
def Obligations.SummaryAndAcknowledgement : Prop :=
  (∀ s : State, s.portReady →
      ∃ t, exec .fetchSummary s = .next t ∧ s.sameButPort t ∧
        t.offers 0x18 .done ([s.eqp.groups.setWidth 8] ++ be 3 s.eqp.flags.toNat ++ [s.eqp.enables.setWidth 8] ++
          be 1 s.eqp.fifo.length ++ be 1 s.eqp.overflows ++ be 1 s.eqp.overruns) ∧
        t.eqp.groups = 0 ∧ t.eqp.overruns = 0 ∧ t.eqp.atn = false ∧ t.eqp.flags = s.eqp.flags ∧
        t.eqp.overflows = s.eqp.overflows ∧ t.eqp.fifo = s.eqp.fifo ∧ t.eqp.enables = s.eqp.enables ∧
        ∀ f : SourceFlag, (s.eqp.flag f = true → (t.raise f).eqp.groups = 0) ∧
          ((t.lower f).raise f).eqp.groups.getLsbD f.group.bit = true) ∧
    ∀ (v : BitVec 24) (s : State), s.portReady →
      ∃ t, exec (.ackFlags v) s = .next t ∧ s.sameButPort t ∧
        (2 ^ 18 ≤ v.toNat → t.offers 0x19 .badField [] ∧ t.eqp.flags = s.eqp.flags ∧ t.eqp.overflows = s.eqp.overflows) ∧
        (v.toNat < 2 ^ 18 →
          t.offers 0x19 .done (be 3 t.eqp.flags.toNat ++ [t.eqp.groups.setWidth 8] ++ beBool t.eqp.atn) ∧
          (∀ f : SourceFlag, f ≠ .events → (t.eqp.flag f = true ↔ s.eqp.flag f = true ∧ v.getLsbD f.bit = false)) ∧
          (t.eqp.flag .events = true ↔
            (v.getLsbD SourceFlag.events.bit = false ∧ s.eqp.flag .events = true) ∨
              (v.getLsbD SourceFlag.events.bit = true ∧ s.eqp.fifo ≠ [])) ∧
          t.eqp.overflows = (if v.getLsbD SourceFlag.eventOverflow.bit then 0 else s.eqp.overflows) ∧
          t.eqp.fifo = s.eqp.fifo ∧ t.eqp.enables = s.eqp.enables ∧ t.eqp.overruns = s.eqp.overruns ∧
          (v.getLsbD SourceFlag.events.bit = false ∨ s.eqp.fifo = [] → t.eqp.groups = s.eqp.groups) ∧
          (v.getLsbD SourceFlag.events.bit = true → s.eqp.fifo ≠ [] →
            ∀ g : Group, (t.eqp.groups.getLsbD g.bit = true ↔ s.eqp.groups.getLsbD g.bit = true ∨ g = .line)))

/-- SET GROUP ENABLES taken: a value beyond the five groups is BAD_FIELD and the enables stay. Otherwise DONE with
the enables as written and ATN: the enables are the field, ATN is asserted exactly when an enabled group flag is
set, group and source flags stay. No command but this one and those that begin or end a restart changes the enables;
the end of a restart gives those of the image. -/
def Obligations.SetGroupEnables : Prop :=
  (∀ (v : Byte) (s : State), s.portReady →
      ∃ t, exec (.setGroupEnables v) s = .next t ∧ s.sameButPort t ∧ t.eqp.groups = s.eqp.groups ∧
        t.eqp.flags = s.eqp.flags ∧
        (32 ≤ v.toNat → t.offers 0x1A .badField [] ∧ t.eqp.enables = s.eqp.enables) ∧
        (v.toNat < 32 → t.eqp.enables = v.setWidth 5 ∧
          (t.eqp.atn = true ↔ ∃ g : Group, v.getLsbD g.bit = true ∧ s.eqp.groups.getLsbD g.bit = true) ∧
          t.offers 0x1A .done ([v] ++ beBool t.eqp.atn))) ∧
    (∀ (c : Instr) (s t : State), exec c s = .next t → (∀ v, c ≠ .setGroupEnables v) → (∀ b, c ≠ .powerOn b) →
      c ≠ .resetActive → (∀ k, c ≠ .restartRequest k) → (∀ image, c ≠ .restartEnd image) →
      t.eqp.enables = s.eqp.enables) ∧
    ∀ (image : List Byte) (s : State) (k : StartKind), s.sul.phase = .restarting k →
      ∃ t, exec (.restartEnd image) s = .next t ∧ t.eqp.enables = t.sul.values.groupEnables

/-- A read of n bytes returns the first n of the port state's code and, while RESPONDING, the response; one that
reaches the last byte of the response ends it and the port is IDLE; another leaves it offered. (That one that goes
past the last byte returns no more is the model's choice: log entry 49.) READ RESTART and every well-formed edit
request that begins while the port is WORKING or RESPONDING is discarded with one overrun more, up to 255, and
nothing else changes. A transfer that is no read and spells no request is refused BAD_FIELD under the code received,
and leaves everything but the port. -/
def Obligations.PortFraming : Prop :=
  (∀ (n : Nat) (s : State), ∃ t, exec (.portRead n) s = .next t ∧ s.sameButPort t ∧
      (s.eqp.port ≠ .responding → t.eqp = { s.eqp with portOut := [s.eqp.port.code].take n }) ∧
      ∀ r, s.eqp.port = .responding → s.eqp.response = some r →
        t.eqp.portOut = (s.eqp.port.code :: r).take n ∧
        (n < r.length + 1 → t.eqp = { s.eqp with portOut := t.eqp.portOut }) ∧
        (r.length + 1 ≤ n → t.eqp = { s.eqp with portOut := t.eqp.portOut, response := none, port := .idle })) ∧
    (∀ (c : Instr) (s : State), (encodeRequest c).isSome = true → s.running = true →
      s.eqp.port = .working ∨ s.eqp.port = .responding →
      exec c s = .next (s.setEqp { s.eqp with overruns := min 255 (s.eqp.overruns + 1) })) ∧
    ∀ (code : Byte) (l : List Byte) (s : State), s.portReady → code ≠ 0 → decodeRequest (code :: l) = none →
      ∃ t, exec (.badRequestFrame (code :: l)) s = .next t ∧ s.sameButPort t ∧ t.offers code .badField []

/-- For every well-formed request, with every operand at every value its fields admit, the transfer that spells it
decodes to it; and whenever a transfer decodes to a request, it is the transfer that spells that request: no bit of
a field is dropped, and no two transfers spell one request. -/
def Obligations.RequestTransfersRoundTrip : Prop :=
  (∀ (i : Instr) (b : List Byte), i.wf = true → encodeRequest i = some b → decodeRequest b = some i) ∧
    ∀ (i : Instr) (b : List Byte), decodeRequest b = some i → encodeRequest i = some b

/-- From every state in which the fire queue holds at most 32 entries, there are eight fire lines, the air queue
holds at most 8 and the routine queue at most 16 frames, the peer table has its thirty positions, the attention list
at most 16 records, the event FIFO at most 32, and both counts of the port are at most 255, every step leaves such a
state. -/
def Obligations.StoresStayBounded : Prop :=
  ∀ s t : State, s.capacitySound → step s = .next t → t.capacitySound

/-- From every state whose run list holds at most 96 items, no ID twice, at most 256 elements in all, and in each
item elements with IDs 1 to 16 in strictly rising order, every step leaves such a state. -/
def Obligations.RunListStaysSound : Prop :=
  ∀ s t : State, s.runListSound → step s = .next t → t.runListSound

/-- From every state with a sound run list in which an item is STANDBY exactly when the standby slot names it and
ON_AIR exactly when the on-air pointer is OWN for it, and the slot, an OWN pointer and the last-aired position name
items of the list, every step leaves the slot, the pointers and the states so. -/
def Obligations.PointersStayInStep : Prop :=
  ∀ s t : State, s.runListSound → s.pointersSound → step s = .next t → t.pointersSound

/-- From every state in which the own number is 1 to 30 while the mode is ACTIVE and 0 otherwise, and a candidate is
1 to 30, every step leaves such a state. -/
def Obligations.StationNumberFitsMode : Prop :=
  ∀ s t : State, s.stationSound → step s = .next t → t.stationSound

/-- From every state in which ATN is asserted exactly while an enabled group flag is set, and the cue lamps show the
effective stage at a FLOOR station and are off at any other and during a restart, every step leaves such a state. -/
def Obligations.OutputsFollow : Prop :=
  ∀ s t : State, s.atnSound → s.lampsSound → step s = .next t → t.atnSound ∧ t.lampsSound

/-- From every state in which the lower threshold is below the upper, ADMITTING goes with fewer entries than the
upper and BUSY with more than the lower, and during a restart the queue is empty and ADMITTING, every step leaves
such a state. -/
def Obligations.BackpressureFollowsTheRoutineQueue : Prop :=
  ∀ s t : State, s.backpressureSound → step s = .next t → t.backpressureSound

/-- The state after reset keeps every bound, has a sound run list and pointers in step, holds no number, asserts no
output (ATN, the three lamps and the eight fire lines) and meets the backpressure rule. Its configuration values are
the defaults (the model's choice, log entry 7). -/
def Obligations.ResetIsSound : Prop :=
  State.reset.capacitySound ∧ State.reset.runListSound ∧ State.reset.pointersSound ∧ State.reset.stationSound ∧
    State.reset.atnSound ∧ State.reset.lampsSound ∧ State.reset.backpressureSound ∧ State.reset.pcu.ownNumber = 0 ∧
    State.reset.eqp.atn = false ∧ State.reset.tmc.lw = false ∧ State.reset.tmc.lf = false ∧ State.reset.tmc.lo = false ∧
    (∀ n < 8, State.reset.fsc.line n = .inactive) ∧ State.reset.values = Config.defaults
end

