-- ==== Sys2Proof/Laws/State.lean ====
section
/-! SUPPORT. What each named update of the state leaves in each field, so that no proof unfolds a record update, and
what the readings of the state see through the updates of the other fields. -/

namespace Sys2Proof.Machine

@[simp] theorem State.setRls_rls (r : RunList) (s : State) : (s.setRls r).rls = r := rfl
@[simp] theorem State.setRls_tke (r : RunList) (s : State) : (s.setRls r).tke = s.tke := rfl
@[simp] theorem State.setRls_fck (r : RunList) (s : State) : (s.setRls r).fck = s.fck := rfl
@[simp] theorem State.setRls_tmc (r : RunList) (s : State) : (s.setRls r).tmc = s.tmc := rfl
@[simp] theorem State.setRls_fsc (r : RunList) (s : State) : (s.setRls r).fsc = s.fsc := rfl
@[simp] theorem State.setRls_lne (r : RunList) (s : State) : (s.setRls r).lne = s.lne := rfl
@[simp] theorem State.setRls_pcu (r : RunList) (s : State) : (s.setRls r).pcu = s.pcu := rfl
@[simp] theorem State.setRls_obq (r : RunList) (s : State) : (s.setRls r).obq = s.obq := rfl
@[simp] theorem State.setRls_eqp (r : RunList) (s : State) : (s.setRls r).eqp = s.eqp := rfl
@[simp] theorem State.setRls_sul (r : RunList) (s : State) : (s.setRls r).sul = s.sul := rfl
@[simp] theorem State.setRls_pulseRest (r : RunList) (s : State) : (s.setRls r).pulseRest = s.pulseRest := rfl
@[simp] theorem State.setRls_pending (r : RunList) (s : State) : (s.setRls r).pending = s.pending := rfl
@[simp] theorem State.setRls_setRls (r r' : RunList) (s : State) : (s.setRls r).setRls r' = s.setRls r' := rfl
@[simp] theorem State.setRls_self (s : State) : s.setRls s.rls = s := rfl

@[simp] theorem State.setTke_rls (t : TakeEngine) (s : State) : (s.setTke t).rls = s.rls := rfl
@[simp] theorem State.setTke_tke (t : TakeEngine) (s : State) : (s.setTke t).tke = t := rfl
@[simp] theorem State.setTke_fck (t : TakeEngine) (s : State) : (s.setTke t).fck = s.fck := rfl
@[simp] theorem State.setTke_tmc (t : TakeEngine) (s : State) : (s.setTke t).tmc = s.tmc := rfl
@[simp] theorem State.setTke_fsc (t : TakeEngine) (s : State) : (s.setTke t).fsc = s.fsc := rfl
@[simp] theorem State.setTke_lne (t : TakeEngine) (s : State) : (s.setTke t).lne = s.lne := rfl
@[simp] theorem State.setTke_pcu (t : TakeEngine) (s : State) : (s.setTke t).pcu = s.pcu := rfl
@[simp] theorem State.setTke_obq (t : TakeEngine) (s : State) : (s.setTke t).obq = s.obq := rfl
@[simp] theorem State.setTke_eqp (t : TakeEngine) (s : State) : (s.setTke t).eqp = s.eqp := rfl
@[simp] theorem State.setTke_sul (t : TakeEngine) (s : State) : (s.setTke t).sul = s.sul := rfl
@[simp] theorem State.setTke_pulseRest (t : TakeEngine) (s : State) : (s.setTke t).pulseRest = s.pulseRest := rfl
@[simp] theorem State.setTke_pending (t : TakeEngine) (s : State) : (s.setTke t).pending = s.pending := rfl
@[simp] theorem State.setTke_setTke (t t' : TakeEngine) (s : State) : (s.setTke t).setTke t' = s.setTke t' := rfl
@[simp] theorem State.setTke_self (s : State) : s.setTke s.tke = s := rfl

@[simp] theorem State.setFck_rls (f : FrameClock) (s : State) : (s.setFck f).rls = s.rls := rfl
@[simp] theorem State.setFck_tke (f : FrameClock) (s : State) : (s.setFck f).tke = s.tke := rfl
@[simp] theorem State.setFck_fck (f : FrameClock) (s : State) : (s.setFck f).fck = f := rfl
@[simp] theorem State.setFck_tmc (f : FrameClock) (s : State) : (s.setFck f).tmc = s.tmc := rfl
@[simp] theorem State.setFck_fsc (f : FrameClock) (s : State) : (s.setFck f).fsc = s.fsc := rfl
@[simp] theorem State.setFck_lne (f : FrameClock) (s : State) : (s.setFck f).lne = s.lne := rfl
@[simp] theorem State.setFck_pcu (f : FrameClock) (s : State) : (s.setFck f).pcu = s.pcu := rfl
@[simp] theorem State.setFck_obq (f : FrameClock) (s : State) : (s.setFck f).obq = s.obq := rfl
@[simp] theorem State.setFck_eqp (f : FrameClock) (s : State) : (s.setFck f).eqp = s.eqp := rfl
@[simp] theorem State.setFck_sul (f : FrameClock) (s : State) : (s.setFck f).sul = s.sul := rfl
@[simp] theorem State.setFck_pulseRest (f : FrameClock) (s : State) : (s.setFck f).pulseRest = s.pulseRest := rfl
@[simp] theorem State.setFck_pending (f : FrameClock) (s : State) : (s.setFck f).pending = s.pending := rfl
@[simp] theorem State.setFck_setFck (f f' : FrameClock) (s : State) : (s.setFck f).setFck f' = s.setFck f' := rfl
@[simp] theorem State.setFck_self (s : State) : s.setFck s.fck = s := rfl

@[simp] theorem State.setTmc_rls (t : TimingComputer) (s : State) : (s.setTmc t).rls = s.rls := rfl
@[simp] theorem State.setTmc_tke (t : TimingComputer) (s : State) : (s.setTmc t).tke = s.tke := rfl
@[simp] theorem State.setTmc_fck (t : TimingComputer) (s : State) : (s.setTmc t).fck = s.fck := rfl
@[simp] theorem State.setTmc_tmc (t : TimingComputer) (s : State) : (s.setTmc t).tmc = t := rfl
@[simp] theorem State.setTmc_fsc (t : TimingComputer) (s : State) : (s.setTmc t).fsc = s.fsc := rfl
@[simp] theorem State.setTmc_lne (t : TimingComputer) (s : State) : (s.setTmc t).lne = s.lne := rfl
@[simp] theorem State.setTmc_pcu (t : TimingComputer) (s : State) : (s.setTmc t).pcu = s.pcu := rfl
@[simp] theorem State.setTmc_obq (t : TimingComputer) (s : State) : (s.setTmc t).obq = s.obq := rfl
@[simp] theorem State.setTmc_eqp (t : TimingComputer) (s : State) : (s.setTmc t).eqp = s.eqp := rfl
@[simp] theorem State.setTmc_sul (t : TimingComputer) (s : State) : (s.setTmc t).sul = s.sul := rfl
@[simp] theorem State.setTmc_pulseRest (t : TimingComputer) (s : State) : (s.setTmc t).pulseRest = s.pulseRest := rfl
@[simp] theorem State.setTmc_pending (t : TimingComputer) (s : State) : (s.setTmc t).pending = s.pending := rfl
@[simp] theorem State.setTmc_setTmc (t t' : TimingComputer) (s : State) : (s.setTmc t).setTmc t' = s.setTmc t' := rfl
@[simp] theorem State.setTmc_self (s : State) : s.setTmc s.tmc = s := rfl

@[simp] theorem State.setFsc_rls (f : FireScheduler) (s : State) : (s.setFsc f).rls = s.rls := rfl
@[simp] theorem State.setFsc_tke (f : FireScheduler) (s : State) : (s.setFsc f).tke = s.tke := rfl
@[simp] theorem State.setFsc_fck (f : FireScheduler) (s : State) : (s.setFsc f).fck = s.fck := rfl
@[simp] theorem State.setFsc_tmc (f : FireScheduler) (s : State) : (s.setFsc f).tmc = s.tmc := rfl
@[simp] theorem State.setFsc_fsc (f : FireScheduler) (s : State) : (s.setFsc f).fsc = f := rfl
@[simp] theorem State.setFsc_lne (f : FireScheduler) (s : State) : (s.setFsc f).lne = s.lne := rfl
@[simp] theorem State.setFsc_pcu (f : FireScheduler) (s : State) : (s.setFsc f).pcu = s.pcu := rfl
@[simp] theorem State.setFsc_obq (f : FireScheduler) (s : State) : (s.setFsc f).obq = s.obq := rfl
@[simp] theorem State.setFsc_eqp (f : FireScheduler) (s : State) : (s.setFsc f).eqp = s.eqp := rfl
@[simp] theorem State.setFsc_sul (f : FireScheduler) (s : State) : (s.setFsc f).sul = s.sul := rfl
@[simp] theorem State.setFsc_pulseRest (f : FireScheduler) (s : State) : (s.setFsc f).pulseRest = s.pulseRest := rfl
@[simp] theorem State.setFsc_pending (f : FireScheduler) (s : State) : (s.setFsc f).pending = s.pending := rfl
@[simp] theorem State.setFsc_setFsc (f f' : FireScheduler) (s : State) : (s.setFsc f).setFsc f' = s.setFsc f' := rfl
@[simp] theorem State.setFsc_self (s : State) : s.setFsc s.fsc = s := rfl

@[simp] theorem State.setLne_rls (l : LineEngine) (s : State) : (s.setLne l).rls = s.rls := rfl
@[simp] theorem State.setLne_tke (l : LineEngine) (s : State) : (s.setLne l).tke = s.tke := rfl
@[simp] theorem State.setLne_fck (l : LineEngine) (s : State) : (s.setLne l).fck = s.fck := rfl
@[simp] theorem State.setLne_tmc (l : LineEngine) (s : State) : (s.setLne l).tmc = s.tmc := rfl
@[simp] theorem State.setLne_fsc (l : LineEngine) (s : State) : (s.setLne l).fsc = s.fsc := rfl
@[simp] theorem State.setLne_lne (l : LineEngine) (s : State) : (s.setLne l).lne = l := rfl
@[simp] theorem State.setLne_pcu (l : LineEngine) (s : State) : (s.setLne l).pcu = s.pcu := rfl
@[simp] theorem State.setLne_obq (l : LineEngine) (s : State) : (s.setLne l).obq = s.obq := rfl
@[simp] theorem State.setLne_eqp (l : LineEngine) (s : State) : (s.setLne l).eqp = s.eqp := rfl
@[simp] theorem State.setLne_sul (l : LineEngine) (s : State) : (s.setLne l).sul = s.sul := rfl
@[simp] theorem State.setLne_pulseRest (l : LineEngine) (s : State) : (s.setLne l).pulseRest = s.pulseRest := rfl
@[simp] theorem State.setLne_pending (l : LineEngine) (s : State) : (s.setLne l).pending = s.pending := rfl
@[simp] theorem State.setLne_setLne (l l' : LineEngine) (s : State) : (s.setLne l).setLne l' = s.setLne l' := rfl
@[simp] theorem State.setLne_self (s : State) : s.setLne s.lne = s := rfl

@[simp] theorem State.setPcu_rls (p : PeerCensus) (s : State) : (s.setPcu p).rls = s.rls := rfl
@[simp] theorem State.setPcu_tke (p : PeerCensus) (s : State) : (s.setPcu p).tke = s.tke := rfl
@[simp] theorem State.setPcu_fck (p : PeerCensus) (s : State) : (s.setPcu p).fck = s.fck := rfl
@[simp] theorem State.setPcu_tmc (p : PeerCensus) (s : State) : (s.setPcu p).tmc = s.tmc := rfl
@[simp] theorem State.setPcu_fsc (p : PeerCensus) (s : State) : (s.setPcu p).fsc = s.fsc := rfl
@[simp] theorem State.setPcu_lne (p : PeerCensus) (s : State) : (s.setPcu p).lne = s.lne := rfl
@[simp] theorem State.setPcu_pcu (p : PeerCensus) (s : State) : (s.setPcu p).pcu = p := rfl
@[simp] theorem State.setPcu_obq (p : PeerCensus) (s : State) : (s.setPcu p).obq = s.obq := rfl
@[simp] theorem State.setPcu_eqp (p : PeerCensus) (s : State) : (s.setPcu p).eqp = s.eqp := rfl
@[simp] theorem State.setPcu_sul (p : PeerCensus) (s : State) : (s.setPcu p).sul = s.sul := rfl
@[simp] theorem State.setPcu_pulseRest (p : PeerCensus) (s : State) : (s.setPcu p).pulseRest = s.pulseRest := rfl
@[simp] theorem State.setPcu_pending (p : PeerCensus) (s : State) : (s.setPcu p).pending = s.pending := rfl
@[simp] theorem State.setPcu_setPcu (p p' : PeerCensus) (s : State) : (s.setPcu p).setPcu p' = s.setPcu p' := rfl
@[simp] theorem State.setPcu_self (s : State) : s.setPcu s.pcu = s := rfl

@[simp] theorem State.setObq_rls (q : OutboundQueues) (s : State) : (s.setObq q).rls = s.rls := rfl
@[simp] theorem State.setObq_tke (q : OutboundQueues) (s : State) : (s.setObq q).tke = s.tke := rfl
@[simp] theorem State.setObq_fck (q : OutboundQueues) (s : State) : (s.setObq q).fck = s.fck := rfl
@[simp] theorem State.setObq_tmc (q : OutboundQueues) (s : State) : (s.setObq q).tmc = s.tmc := rfl
@[simp] theorem State.setObq_fsc (q : OutboundQueues) (s : State) : (s.setObq q).fsc = s.fsc := rfl
@[simp] theorem State.setObq_lne (q : OutboundQueues) (s : State) : (s.setObq q).lne = s.lne := rfl
@[simp] theorem State.setObq_pcu (q : OutboundQueues) (s : State) : (s.setObq q).pcu = s.pcu := rfl
@[simp] theorem State.setObq_obq (q : OutboundQueues) (s : State) : (s.setObq q).obq = q := rfl
@[simp] theorem State.setObq_eqp (q : OutboundQueues) (s : State) : (s.setObq q).eqp = s.eqp := rfl
@[simp] theorem State.setObq_sul (q : OutboundQueues) (s : State) : (s.setObq q).sul = s.sul := rfl
@[simp] theorem State.setObq_pulseRest (q : OutboundQueues) (s : State) : (s.setObq q).pulseRest = s.pulseRest := rfl
@[simp] theorem State.setObq_pending (q : OutboundQueues) (s : State) : (s.setObq q).pending = s.pending := rfl
@[simp] theorem State.setObq_setObq (q q' : OutboundQueues) (s : State) : (s.setObq q).setObq q' = s.setObq q' := rfl
@[simp] theorem State.setObq_self (s : State) : s.setObq s.obq = s := rfl

@[simp] theorem State.setEqp_rls (e : EquipmentPort) (s : State) : (s.setEqp e).rls = s.rls := rfl
@[simp] theorem State.setEqp_tke (e : EquipmentPort) (s : State) : (s.setEqp e).tke = s.tke := rfl
@[simp] theorem State.setEqp_fck (e : EquipmentPort) (s : State) : (s.setEqp e).fck = s.fck := rfl
@[simp] theorem State.setEqp_tmc (e : EquipmentPort) (s : State) : (s.setEqp e).tmc = s.tmc := rfl
@[simp] theorem State.setEqp_fsc (e : EquipmentPort) (s : State) : (s.setEqp e).fsc = s.fsc := rfl
@[simp] theorem State.setEqp_lne (e : EquipmentPort) (s : State) : (s.setEqp e).lne = s.lne := rfl
@[simp] theorem State.setEqp_pcu (e : EquipmentPort) (s : State) : (s.setEqp e).pcu = s.pcu := rfl
@[simp] theorem State.setEqp_obq (e : EquipmentPort) (s : State) : (s.setEqp e).obq = s.obq := rfl
@[simp] theorem State.setEqp_eqp (e : EquipmentPort) (s : State) : (s.setEqp e).eqp = e := rfl
@[simp] theorem State.setEqp_sul (e : EquipmentPort) (s : State) : (s.setEqp e).sul = s.sul := rfl
@[simp] theorem State.setEqp_pulseRest (e : EquipmentPort) (s : State) : (s.setEqp e).pulseRest = s.pulseRest := rfl
@[simp] theorem State.setEqp_pending (e : EquipmentPort) (s : State) : (s.setEqp e).pending = s.pending := rfl
@[simp] theorem State.setEqp_setEqp (e e' : EquipmentPort) (s : State) : (s.setEqp e).setEqp e' = s.setEqp e' := rfl
@[simp] theorem State.setEqp_self (s : State) : s.setEqp s.eqp = s := rfl

@[simp] theorem State.setSul_rls (u : StartupLoader) (s : State) : (s.setSul u).rls = s.rls := rfl
@[simp] theorem State.setSul_tke (u : StartupLoader) (s : State) : (s.setSul u).tke = s.tke := rfl
@[simp] theorem State.setSul_fck (u : StartupLoader) (s : State) : (s.setSul u).fck = s.fck := rfl
@[simp] theorem State.setSul_tmc (u : StartupLoader) (s : State) : (s.setSul u).tmc = s.tmc := rfl
@[simp] theorem State.setSul_fsc (u : StartupLoader) (s : State) : (s.setSul u).fsc = s.fsc := rfl
@[simp] theorem State.setSul_lne (u : StartupLoader) (s : State) : (s.setSul u).lne = s.lne := rfl
@[simp] theorem State.setSul_pcu (u : StartupLoader) (s : State) : (s.setSul u).pcu = s.pcu := rfl
@[simp] theorem State.setSul_obq (u : StartupLoader) (s : State) : (s.setSul u).obq = s.obq := rfl
@[simp] theorem State.setSul_eqp (u : StartupLoader) (s : State) : (s.setSul u).eqp = s.eqp := rfl
@[simp] theorem State.setSul_sul (u : StartupLoader) (s : State) : (s.setSul u).sul = u := rfl
@[simp] theorem State.setSul_pulseRest (u : StartupLoader) (s : State) : (s.setSul u).pulseRest = s.pulseRest := rfl
@[simp] theorem State.setSul_pending (u : StartupLoader) (s : State) : (s.setSul u).pending = s.pending := rfl
@[simp] theorem State.setSul_setSul (u u' : StartupLoader) (s : State) : (s.setSul u).setSul u' = s.setSul u' := rfl
@[simp] theorem State.setSul_self (s : State) : s.setSul s.sul = s := rfl

@[simp] theorem State.setPulseRest_rls (r : List PulsePart) (s : State) : (s.setPulseRest r).rls = s.rls := rfl
@[simp] theorem State.setPulseRest_tke (r : List PulsePart) (s : State) : (s.setPulseRest r).tke = s.tke := rfl
@[simp] theorem State.setPulseRest_fck (r : List PulsePart) (s : State) : (s.setPulseRest r).fck = s.fck := rfl
@[simp] theorem State.setPulseRest_tmc (r : List PulsePart) (s : State) : (s.setPulseRest r).tmc = s.tmc := rfl
@[simp] theorem State.setPulseRest_fsc (r : List PulsePart) (s : State) : (s.setPulseRest r).fsc = s.fsc := rfl
@[simp] theorem State.setPulseRest_lne (r : List PulsePart) (s : State) : (s.setPulseRest r).lne = s.lne := rfl
@[simp] theorem State.setPulseRest_pcu (r : List PulsePart) (s : State) : (s.setPulseRest r).pcu = s.pcu := rfl
@[simp] theorem State.setPulseRest_obq (r : List PulsePart) (s : State) : (s.setPulseRest r).obq = s.obq := rfl
@[simp] theorem State.setPulseRest_eqp (r : List PulsePart) (s : State) : (s.setPulseRest r).eqp = s.eqp := rfl
@[simp] theorem State.setPulseRest_sul (r : List PulsePart) (s : State) : (s.setPulseRest r).sul = s.sul := rfl
@[simp] theorem State.setPulseRest_pulseRest (r : List PulsePart) (s : State) : (s.setPulseRest r).pulseRest = r := rfl
@[simp] theorem State.setPulseRest_pending (r : List PulsePart) (s : State) : (s.setPulseRest r).pending = s.pending := rfl
@[simp] theorem State.setPulseRest_setPulseRest (r r' : List PulsePart) (s : State) : (s.setPulseRest r).setPulseRest r' = s.setPulseRest r' := rfl
@[simp] theorem State.setPulseRest_self (s : State) : s.setPulseRest s.pulseRest = s := rfl

@[simp] theorem State.setPending_rls (q : List Instr) (s : State) : (s.setPending q).rls = s.rls := rfl
@[simp] theorem State.setPending_tke (q : List Instr) (s : State) : (s.setPending q).tke = s.tke := rfl
@[simp] theorem State.setPending_fck (q : List Instr) (s : State) : (s.setPending q).fck = s.fck := rfl
@[simp] theorem State.setPending_tmc (q : List Instr) (s : State) : (s.setPending q).tmc = s.tmc := rfl
@[simp] theorem State.setPending_fsc (q : List Instr) (s : State) : (s.setPending q).fsc = s.fsc := rfl
@[simp] theorem State.setPending_lne (q : List Instr) (s : State) : (s.setPending q).lne = s.lne := rfl
@[simp] theorem State.setPending_pcu (q : List Instr) (s : State) : (s.setPending q).pcu = s.pcu := rfl
@[simp] theorem State.setPending_obq (q : List Instr) (s : State) : (s.setPending q).obq = s.obq := rfl
@[simp] theorem State.setPending_eqp (q : List Instr) (s : State) : (s.setPending q).eqp = s.eqp := rfl
@[simp] theorem State.setPending_sul (q : List Instr) (s : State) : (s.setPending q).sul = s.sul := rfl
@[simp] theorem State.setPending_pulseRest (q : List Instr) (s : State) : (s.setPending q).pulseRest = s.pulseRest := rfl
@[simp] theorem State.setPending_pending (q : List Instr) (s : State) : (s.setPending q).pending = q := rfl
@[simp] theorem State.setPending_setPending (q q' : List Instr) (s : State) : (s.setPending q).setPending q' = s.setPending q' := rfl
@[simp] theorem State.setPending_self (s : State) : s.setPending s.pending = s := rfl

/-! ### The readings -/

@[simp] theorem State.now_eq (s : State) : s.now = s.fck.count := rfl
@[simp] theorem State.values_eq (s : State) : s.values = s.sul.values := rfl

theorem State.running_iff (s : State) : s.running = true ↔ s.sul.phase = .running := by
  simp [State.running]

theorem State.isActive_iff (s : State) : s.isActive = true ↔ s.pcu.mode = .active := by
  simp [State.isActive]

end Sys2Proof.Machine
end

