-- ==== Sys2Proof/Laws/Ops.lean ====
section
/-! SUPPORT. The frames of the shared operations: which blocks each leaves as they are, and, for the operations with
several outcomes, everything that each can do. -/

namespace Sys2Proof.Machine

/-! ### Reporting (R172, R174) -/

@[simp] theorem State.post_rls (ev : Event) (s : State) : (s.post ev).rls = s.rls := rfl
@[simp] theorem State.post_tke (ev : Event) (s : State) : (s.post ev).tke = s.tke := rfl
@[simp] theorem State.post_fck (ev : Event) (s : State) : (s.post ev).fck = s.fck := rfl
@[simp] theorem State.post_tmc (ev : Event) (s : State) : (s.post ev).tmc = s.tmc := rfl
@[simp] theorem State.post_fsc (ev : Event) (s : State) : (s.post ev).fsc = s.fsc := rfl
@[simp] theorem State.post_lne (ev : Event) (s : State) : (s.post ev).lne = s.lne := rfl
@[simp] theorem State.post_pcu (ev : Event) (s : State) : (s.post ev).pcu = s.pcu := rfl
@[simp] theorem State.post_obq (ev : Event) (s : State) : (s.post ev).obq = s.obq := rfl
@[simp] theorem State.post_sul (ev : Event) (s : State) : (s.post ev).sul = s.sul := rfl
@[simp] theorem State.post_pulseRest (ev : Event) (s : State) : (s.post ev).pulseRest = s.pulseRest := rfl
@[simp] theorem State.post_pending (ev : Event) (s : State) : (s.post ev).pending = s.pending := rfl

@[simp] theorem State.raise_rls (f : SourceFlag) (s : State) : (s.raise f).rls = s.rls := rfl
@[simp] theorem State.raise_tke (f : SourceFlag) (s : State) : (s.raise f).tke = s.tke := rfl
@[simp] theorem State.raise_fck (f : SourceFlag) (s : State) : (s.raise f).fck = s.fck := rfl
@[simp] theorem State.raise_tmc (f : SourceFlag) (s : State) : (s.raise f).tmc = s.tmc := rfl
@[simp] theorem State.raise_fsc (f : SourceFlag) (s : State) : (s.raise f).fsc = s.fsc := rfl
@[simp] theorem State.raise_lne (f : SourceFlag) (s : State) : (s.raise f).lne = s.lne := rfl
@[simp] theorem State.raise_pcu (f : SourceFlag) (s : State) : (s.raise f).pcu = s.pcu := rfl
@[simp] theorem State.raise_obq (f : SourceFlag) (s : State) : (s.raise f).obq = s.obq := rfl
@[simp] theorem State.raise_sul (f : SourceFlag) (s : State) : (s.raise f).sul = s.sul := rfl
@[simp] theorem State.raise_pulseRest (f : SourceFlag) (s : State) : (s.raise f).pulseRest = s.pulseRest := rfl
@[simp] theorem State.raise_pending (f : SourceFlag) (s : State) : (s.raise f).pending = s.pending := rfl

@[simp] theorem State.lower_rls (f : SourceFlag) (s : State) : (s.lower f).rls = s.rls := rfl
@[simp] theorem State.lower_tke (f : SourceFlag) (s : State) : (s.lower f).tke = s.tke := rfl
@[simp] theorem State.lower_fck (f : SourceFlag) (s : State) : (s.lower f).fck = s.fck := rfl
@[simp] theorem State.lower_tmc (f : SourceFlag) (s : State) : (s.lower f).tmc = s.tmc := rfl
@[simp] theorem State.lower_fsc (f : SourceFlag) (s : State) : (s.lower f).fsc = s.fsc := rfl
@[simp] theorem State.lower_lne (f : SourceFlag) (s : State) : (s.lower f).lne = s.lne := rfl
@[simp] theorem State.lower_pcu (f : SourceFlag) (s : State) : (s.lower f).pcu = s.pcu := rfl
@[simp] theorem State.lower_obq (f : SourceFlag) (s : State) : (s.lower f).obq = s.obq := rfl
@[simp] theorem State.lower_sul (f : SourceFlag) (s : State) : (s.lower f).sul = s.sul := rfl
@[simp] theorem State.lower_pulseRest (f : SourceFlag) (s : State) : (s.lower f).pulseRest = s.pulseRest := rfl
@[simp] theorem State.lower_pending (f : SourceFlag) (s : State) : (s.lower f).pending = s.pending := rfl

@[simp] theorem State.ignoreTake_rls (r : IgnoreReason) (i : ItemId) (s : State) : (s.ignoreTake r i).rls = s.rls := rfl
@[simp] theorem State.ignoreTake_tke (r : IgnoreReason) (i : ItemId) (s : State) : (s.ignoreTake r i).tke = s.tke := rfl
@[simp] theorem State.ignoreTake_fck (r : IgnoreReason) (i : ItemId) (s : State) : (s.ignoreTake r i).fck = s.fck := rfl
@[simp] theorem State.ignoreTake_tmc (r : IgnoreReason) (i : ItemId) (s : State) : (s.ignoreTake r i).tmc = s.tmc := rfl
@[simp] theorem State.ignoreTake_fsc (r : IgnoreReason) (i : ItemId) (s : State) : (s.ignoreTake r i).fsc = s.fsc := rfl
@[simp] theorem State.ignoreTake_lne (r : IgnoreReason) (i : ItemId) (s : State) : (s.ignoreTake r i).lne = s.lne := rfl
@[simp] theorem State.ignoreTake_pcu (r : IgnoreReason) (i : ItemId) (s : State) : (s.ignoreTake r i).pcu = s.pcu := rfl
@[simp] theorem State.ignoreTake_obq (r : IgnoreReason) (i : ItemId) (s : State) : (s.ignoreTake r i).obq = s.obq := rfl
@[simp] theorem State.ignoreTake_sul (r : IgnoreReason) (i : ItemId) (s : State) : (s.ignoreTake r i).sul = s.sul := rfl
@[simp] theorem State.ignoreTake_pulseRest (r : IgnoreReason) (i : ItemId) (s : State) : (s.ignoreTake r i).pulseRest = s.pulseRest := rfl
@[simp] theorem State.ignoreTake_pending (r : IgnoreReason) (i : ItemId) (s : State) : (s.ignoreTake r i).pending = s.pending := rfl

/-! ### The run list, the fire queue, the fire lines, the peer table and the pending take -/

@[simp] theorem State.modItem_tke (id : ItemId) (f : Item → Item) (s : State) : (s.modItem id f).tke = s.tke := rfl
@[simp] theorem State.modItem_fck (id : ItemId) (f : Item → Item) (s : State) : (s.modItem id f).fck = s.fck := rfl
@[simp] theorem State.modItem_tmc (id : ItemId) (f : Item → Item) (s : State) : (s.modItem id f).tmc = s.tmc := rfl
@[simp] theorem State.modItem_fsc (id : ItemId) (f : Item → Item) (s : State) : (s.modItem id f).fsc = s.fsc := rfl
@[simp] theorem State.modItem_lne (id : ItemId) (f : Item → Item) (s : State) : (s.modItem id f).lne = s.lne := rfl
@[simp] theorem State.modItem_pcu (id : ItemId) (f : Item → Item) (s : State) : (s.modItem id f).pcu = s.pcu := rfl
@[simp] theorem State.modItem_obq (id : ItemId) (f : Item → Item) (s : State) : (s.modItem id f).obq = s.obq := rfl
@[simp] theorem State.modItem_eqp (id : ItemId) (f : Item → Item) (s : State) : (s.modItem id f).eqp = s.eqp := rfl
@[simp] theorem State.modItem_sul (id : ItemId) (f : Item → Item) (s : State) : (s.modItem id f).sul = s.sul := rfl
@[simp] theorem State.modItem_pulseRest (id : ItemId) (f : Item → Item) (s : State) : (s.modItem id f).pulseRest = s.pulseRest := rfl
@[simp] theorem State.modItem_pending (id : ItemId) (f : Item → Item) (s : State) : (s.modItem id f).pending = s.pending := rfl

@[simp] theorem State.modElement_tke (id : ItemId) (e : Nat) (f : Element → Element) (s : State) : (s.modElement id e f).tke = s.tke := rfl
@[simp] theorem State.modElement_fck (id : ItemId) (e : Nat) (f : Element → Element) (s : State) : (s.modElement id e f).fck = s.fck := rfl
@[simp] theorem State.modElement_tmc (id : ItemId) (e : Nat) (f : Element → Element) (s : State) : (s.modElement id e f).tmc = s.tmc := rfl
@[simp] theorem State.modElement_fsc (id : ItemId) (e : Nat) (f : Element → Element) (s : State) : (s.modElement id e f).fsc = s.fsc := rfl
@[simp] theorem State.modElement_lne (id : ItemId) (e : Nat) (f : Element → Element) (s : State) : (s.modElement id e f).lne = s.lne := rfl
@[simp] theorem State.modElement_pcu (id : ItemId) (e : Nat) (f : Element → Element) (s : State) : (s.modElement id e f).pcu = s.pcu := rfl
@[simp] theorem State.modElement_obq (id : ItemId) (e : Nat) (f : Element → Element) (s : State) : (s.modElement id e f).obq = s.obq := rfl
@[simp] theorem State.modElement_eqp (id : ItemId) (e : Nat) (f : Element → Element) (s : State) : (s.modElement id e f).eqp = s.eqp := rfl
@[simp] theorem State.modElement_sul (id : ItemId) (e : Nat) (f : Element → Element) (s : State) : (s.modElement id e f).sul = s.sul := rfl
@[simp] theorem State.modElement_pulseRest (id : ItemId) (e : Nat) (f : Element → Element) (s : State) : (s.modElement id e f).pulseRest = s.pulseRest := rfl
@[simp] theorem State.modElement_pending (id : ItemId) (e : Nat) (f : Element → Element) (s : State) : (s.modElement id e f).pending = s.pending := rfl

@[simp] theorem State.setItems_tke (l : List Item) (s : State) : (s.setItems l).tke = s.tke := rfl
@[simp] theorem State.setItems_fck (l : List Item) (s : State) : (s.setItems l).fck = s.fck := rfl
@[simp] theorem State.setItems_tmc (l : List Item) (s : State) : (s.setItems l).tmc = s.tmc := rfl
@[simp] theorem State.setItems_fsc (l : List Item) (s : State) : (s.setItems l).fsc = s.fsc := rfl
@[simp] theorem State.setItems_lne (l : List Item) (s : State) : (s.setItems l).lne = s.lne := rfl
@[simp] theorem State.setItems_pcu (l : List Item) (s : State) : (s.setItems l).pcu = s.pcu := rfl
@[simp] theorem State.setItems_obq (l : List Item) (s : State) : (s.setItems l).obq = s.obq := rfl
@[simp] theorem State.setItems_eqp (l : List Item) (s : State) : (s.setItems l).eqp = s.eqp := rfl
@[simp] theorem State.setItems_sul (l : List Item) (s : State) : (s.setItems l).sul = s.sul := rfl
@[simp] theorem State.setItems_pulseRest (l : List Item) (s : State) : (s.setItems l).pulseRest = s.pulseRest := rfl
@[simp] theorem State.setItems_pending (l : List Item) (s : State) : (s.setItems l).pending = s.pending := rfl

@[simp] theorem State.setQueue_rls (q : List FireEntry) (s : State) : (s.setQueue q).rls = s.rls := rfl
@[simp] theorem State.setQueue_tke (q : List FireEntry) (s : State) : (s.setQueue q).tke = s.tke := rfl
@[simp] theorem State.setQueue_fck (q : List FireEntry) (s : State) : (s.setQueue q).fck = s.fck := rfl
@[simp] theorem State.setQueue_tmc (q : List FireEntry) (s : State) : (s.setQueue q).tmc = s.tmc := rfl
@[simp] theorem State.setQueue_lne (q : List FireEntry) (s : State) : (s.setQueue q).lne = s.lne := rfl
@[simp] theorem State.setQueue_pcu (q : List FireEntry) (s : State) : (s.setQueue q).pcu = s.pcu := rfl
@[simp] theorem State.setQueue_obq (q : List FireEntry) (s : State) : (s.setQueue q).obq = s.obq := rfl
@[simp] theorem State.setQueue_eqp (q : List FireEntry) (s : State) : (s.setQueue q).eqp = s.eqp := rfl
@[simp] theorem State.setQueue_sul (q : List FireEntry) (s : State) : (s.setQueue q).sul = s.sul := rfl
@[simp] theorem State.setQueue_pulseRest (q : List FireEntry) (s : State) : (s.setQueue q).pulseRest = s.pulseRest := rfl
@[simp] theorem State.setQueue_pending (q : List FireEntry) (s : State) : (s.setQueue q).pending = s.pending := rfl

@[simp] theorem State.withdraw_rls (id : ItemId) (e : Nat) (s : State) : (s.withdraw id e).rls = s.rls := rfl
@[simp] theorem State.withdraw_tke (id : ItemId) (e : Nat) (s : State) : (s.withdraw id e).tke = s.tke := rfl
@[simp] theorem State.withdraw_fck (id : ItemId) (e : Nat) (s : State) : (s.withdraw id e).fck = s.fck := rfl
@[simp] theorem State.withdraw_tmc (id : ItemId) (e : Nat) (s : State) : (s.withdraw id e).tmc = s.tmc := rfl
@[simp] theorem State.withdraw_lne (id : ItemId) (e : Nat) (s : State) : (s.withdraw id e).lne = s.lne := rfl
@[simp] theorem State.withdraw_pcu (id : ItemId) (e : Nat) (s : State) : (s.withdraw id e).pcu = s.pcu := rfl
@[simp] theorem State.withdraw_obq (id : ItemId) (e : Nat) (s : State) : (s.withdraw id e).obq = s.obq := rfl
@[simp] theorem State.withdraw_eqp (id : ItemId) (e : Nat) (s : State) : (s.withdraw id e).eqp = s.eqp := rfl
@[simp] theorem State.withdraw_sul (id : ItemId) (e : Nat) (s : State) : (s.withdraw id e).sul = s.sul := rfl
@[simp] theorem State.withdraw_pulseRest (id : ItemId) (e : Nat) (s : State) : (s.withdraw id e).pulseRest = s.pulseRest := rfl
@[simp] theorem State.withdraw_pending (id : ItemId) (e : Nat) (s : State) : (s.withdraw id e).pending = s.pending := rfl

@[simp] theorem State.setLine_rls (n : Nat) (l : FireLine) (s : State) : (s.setLine n l).rls = s.rls := rfl
@[simp] theorem State.setLine_tke (n : Nat) (l : FireLine) (s : State) : (s.setLine n l).tke = s.tke := rfl
@[simp] theorem State.setLine_fck (n : Nat) (l : FireLine) (s : State) : (s.setLine n l).fck = s.fck := rfl
@[simp] theorem State.setLine_tmc (n : Nat) (l : FireLine) (s : State) : (s.setLine n l).tmc = s.tmc := rfl
@[simp] theorem State.setLine_lne (n : Nat) (l : FireLine) (s : State) : (s.setLine n l).lne = s.lne := rfl
@[simp] theorem State.setLine_pcu (n : Nat) (l : FireLine) (s : State) : (s.setLine n l).pcu = s.pcu := rfl
@[simp] theorem State.setLine_obq (n : Nat) (l : FireLine) (s : State) : (s.setLine n l).obq = s.obq := rfl
@[simp] theorem State.setLine_eqp (n : Nat) (l : FireLine) (s : State) : (s.setLine n l).eqp = s.eqp := rfl
@[simp] theorem State.setLine_sul (n : Nat) (l : FireLine) (s : State) : (s.setLine n l).sul = s.sul := rfl
@[simp] theorem State.setLine_pulseRest (n : Nat) (l : FireLine) (s : State) : (s.setLine n l).pulseRest = s.pulseRest := rfl
@[simp] theorem State.setLine_pending (n : Nat) (l : FireLine) (s : State) : (s.setLine n l).pending = s.pending := rfl

@[simp] theorem State.mapLines_rls (f : FireLine → FireLine) (s : State) : (s.mapLines f).rls = s.rls := rfl
@[simp] theorem State.mapLines_tke (f : FireLine → FireLine) (s : State) : (s.mapLines f).tke = s.tke := rfl
@[simp] theorem State.mapLines_fck (f : FireLine → FireLine) (s : State) : (s.mapLines f).fck = s.fck := rfl
@[simp] theorem State.mapLines_tmc (f : FireLine → FireLine) (s : State) : (s.mapLines f).tmc = s.tmc := rfl
@[simp] theorem State.mapLines_lne (f : FireLine → FireLine) (s : State) : (s.mapLines f).lne = s.lne := rfl
@[simp] theorem State.mapLines_pcu (f : FireLine → FireLine) (s : State) : (s.mapLines f).pcu = s.pcu := rfl
@[simp] theorem State.mapLines_obq (f : FireLine → FireLine) (s : State) : (s.mapLines f).obq = s.obq := rfl
@[simp] theorem State.mapLines_eqp (f : FireLine → FireLine) (s : State) : (s.mapLines f).eqp = s.eqp := rfl
@[simp] theorem State.mapLines_sul (f : FireLine → FireLine) (s : State) : (s.mapLines f).sul = s.sul := rfl
@[simp] theorem State.mapLines_pulseRest (f : FireLine → FireLine) (s : State) : (s.mapLines f).pulseRest = s.pulseRest := rfl
@[simp] theorem State.mapLines_pending (f : FireLine → FireLine) (s : State) : (s.mapLines f).pending = s.pending := rfl

@[simp] theorem State.setPeer_rls (k : Nat) (e : Option Peer) (s : State) : (s.setPeer k e).rls = s.rls := rfl
@[simp] theorem State.setPeer_tke (k : Nat) (e : Option Peer) (s : State) : (s.setPeer k e).tke = s.tke := rfl
@[simp] theorem State.setPeer_fck (k : Nat) (e : Option Peer) (s : State) : (s.setPeer k e).fck = s.fck := rfl
@[simp] theorem State.setPeer_tmc (k : Nat) (e : Option Peer) (s : State) : (s.setPeer k e).tmc = s.tmc := rfl
@[simp] theorem State.setPeer_fsc (k : Nat) (e : Option Peer) (s : State) : (s.setPeer k e).fsc = s.fsc := rfl
@[simp] theorem State.setPeer_lne (k : Nat) (e : Option Peer) (s : State) : (s.setPeer k e).lne = s.lne := rfl
@[simp] theorem State.setPeer_obq (k : Nat) (e : Option Peer) (s : State) : (s.setPeer k e).obq = s.obq := rfl
@[simp] theorem State.setPeer_eqp (k : Nat) (e : Option Peer) (s : State) : (s.setPeer k e).eqp = s.eqp := rfl
@[simp] theorem State.setPeer_sul (k : Nat) (e : Option Peer) (s : State) : (s.setPeer k e).sul = s.sul := rfl
@[simp] theorem State.setPeer_pulseRest (k : Nat) (e : Option Peer) (s : State) : (s.setPeer k e).pulseRest = s.pulseRest := rfl
@[simp] theorem State.setPeer_pending (k : Nat) (e : Option Peer) (s : State) : (s.setPeer k e).pending = s.pending := rfl

@[simp] theorem State.setPendingTake_rls (p : Option PendingTake) (s : State) : (s.setPendingTake p).rls = s.rls := rfl
@[simp] theorem State.setPendingTake_fck (p : Option PendingTake) (s : State) : (s.setPendingTake p).fck = s.fck := rfl
@[simp] theorem State.setPendingTake_tmc (p : Option PendingTake) (s : State) : (s.setPendingTake p).tmc = s.tmc := rfl
@[simp] theorem State.setPendingTake_fsc (p : Option PendingTake) (s : State) : (s.setPendingTake p).fsc = s.fsc := rfl
@[simp] theorem State.setPendingTake_lne (p : Option PendingTake) (s : State) : (s.setPendingTake p).lne = s.lne := rfl
@[simp] theorem State.setPendingTake_pcu (p : Option PendingTake) (s : State) : (s.setPendingTake p).pcu = s.pcu := rfl
@[simp] theorem State.setPendingTake_obq (p : Option PendingTake) (s : State) : (s.setPendingTake p).obq = s.obq := rfl
@[simp] theorem State.setPendingTake_eqp (p : Option PendingTake) (s : State) : (s.setPendingTake p).eqp = s.eqp := rfl
@[simp] theorem State.setPendingTake_sul (p : Option PendingTake) (s : State) : (s.setPendingTake p).sul = s.sul := rfl
@[simp] theorem State.setPendingTake_pulseRest (p : Option PendingTake) (s : State) : (s.setPendingTake p).pulseRest = s.pulseRest := rfl
@[simp] theorem State.setPendingTake_pending (p : Option PendingTake) (s : State) : (s.setPendingTake p).pending = s.pending := rfl

@[simp] theorem State.modQueue_rls (n : QueueName) (f : List QueueEntry → List QueueEntry) (s : State) : (s.modQueue n f).rls = s.rls := rfl
@[simp] theorem State.modQueue_tke (n : QueueName) (f : List QueueEntry → List QueueEntry) (s : State) : (s.modQueue n f).tke = s.tke := rfl
@[simp] theorem State.modQueue_fck (n : QueueName) (f : List QueueEntry → List QueueEntry) (s : State) : (s.modQueue n f).fck = s.fck := rfl
@[simp] theorem State.modQueue_tmc (n : QueueName) (f : List QueueEntry → List QueueEntry) (s : State) : (s.modQueue n f).tmc = s.tmc := rfl
@[simp] theorem State.modQueue_fsc (n : QueueName) (f : List QueueEntry → List QueueEntry) (s : State) : (s.modQueue n f).fsc = s.fsc := rfl
@[simp] theorem State.modQueue_lne (n : QueueName) (f : List QueueEntry → List QueueEntry) (s : State) : (s.modQueue n f).lne = s.lne := rfl
@[simp] theorem State.modQueue_pcu (n : QueueName) (f : List QueueEntry → List QueueEntry) (s : State) : (s.modQueue n f).pcu = s.pcu := rfl
@[simp] theorem State.modQueue_eqp (n : QueueName) (f : List QueueEntry → List QueueEntry) (s : State) : (s.modQueue n f).eqp = s.eqp := rfl
@[simp] theorem State.modQueue_sul (n : QueueName) (f : List QueueEntry → List QueueEntry) (s : State) : (s.modQueue n f).sul = s.sul := rfl
@[simp] theorem State.modQueue_pulseRest (n : QueueName) (f : List QueueEntry → List QueueEntry) (s : State) : (s.modQueue n f).pulseRest = s.pulseRest := rfl
@[simp] theorem State.modQueue_pending (n : QueueName) (f : List QueueEntry → List QueueEntry) (s : State) : (s.modQueue n f).pending = s.pending := rfl

/-! ### Posting for each of a list -/

@[simp] theorem State.posts_rls {α : Type} (g : α → Event) (l : List α) (s : State) :
    (l.foldl (fun t e => t.post (g e)) s).rls = s.rls := by
  induction l generalizing s with
  | nil => rfl
  | cons e l ih => simp [List.foldl, ih]
@[simp] theorem State.posts_tke {α : Type} (g : α → Event) (l : List α) (s : State) :
    (l.foldl (fun t e => t.post (g e)) s).tke = s.tke := by
  induction l generalizing s with
  | nil => rfl
  | cons e l ih => simp [List.foldl, ih]
@[simp] theorem State.posts_fck {α : Type} (g : α → Event) (l : List α) (s : State) :
    (l.foldl (fun t e => t.post (g e)) s).fck = s.fck := by
  induction l generalizing s with
  | nil => rfl
  | cons e l ih => simp [List.foldl, ih]
@[simp] theorem State.posts_tmc {α : Type} (g : α → Event) (l : List α) (s : State) :
    (l.foldl (fun t e => t.post (g e)) s).tmc = s.tmc := by
  induction l generalizing s with
  | nil => rfl
  | cons e l ih => simp [List.foldl, ih]
@[simp] theorem State.posts_fsc {α : Type} (g : α → Event) (l : List α) (s : State) :
    (l.foldl (fun t e => t.post (g e)) s).fsc = s.fsc := by
  induction l generalizing s with
  | nil => rfl
  | cons e l ih => simp [List.foldl, ih]
@[simp] theorem State.posts_lne {α : Type} (g : α → Event) (l : List α) (s : State) :
    (l.foldl (fun t e => t.post (g e)) s).lne = s.lne := by
  induction l generalizing s with
  | nil => rfl
  | cons e l ih => simp [List.foldl, ih]
@[simp] theorem State.posts_pcu {α : Type} (g : α → Event) (l : List α) (s : State) :
    (l.foldl (fun t e => t.post (g e)) s).pcu = s.pcu := by
  induction l generalizing s with
  | nil => rfl
  | cons e l ih => simp [List.foldl, ih]
@[simp] theorem State.posts_obq {α : Type} (g : α → Event) (l : List α) (s : State) :
    (l.foldl (fun t e => t.post (g e)) s).obq = s.obq := by
  induction l generalizing s with
  | nil => rfl
  | cons e l ih => simp [List.foldl, ih]
@[simp] theorem State.posts_sul {α : Type} (g : α → Event) (l : List α) (s : State) :
    (l.foldl (fun t e => t.post (g e)) s).sul = s.sul := by
  induction l generalizing s with
  | nil => rfl
  | cons e l ih => simp [List.foldl, ih]
@[simp] theorem State.posts_pulseRest {α : Type} (g : α → Event) (l : List α) (s : State) :
    (l.foldl (fun t e => t.post (g e)) s).pulseRest = s.pulseRest := by
  induction l generalizing s with
  | nil => rfl
  | cons e l ih => simp [List.foldl, ih]
@[simp] theorem State.posts_pending {α : Type} (g : α → Event) (l : List α) (s : State) :
    (l.foldl (fun t e => t.post (g e)) s).pending = s.pending := by
  induction l generalizing s with
  | nil => rfl
  | cons e l ih => simp [List.foldl, ih]

/-! ### Submission (R157): the outbound queues, and for a CLEAR the port -/

@[simp] theorem State.submit_rls (p : Payload) (a : Address) (sub : Submitter) (s : State) :
    (s.submit p a sub).1.rls = s.rls := by
  unfold State.submit State.submitClear State.submitAir State.submitRoutine
  simp only []
  split_ifs <;> simp
@[simp] theorem State.submit_tke (p : Payload) (a : Address) (sub : Submitter) (s : State) :
    (s.submit p a sub).1.tke = s.tke := by
  unfold State.submit State.submitClear State.submitAir State.submitRoutine
  simp only []
  split_ifs <;> simp
@[simp] theorem State.submit_fck (p : Payload) (a : Address) (sub : Submitter) (s : State) :
    (s.submit p a sub).1.fck = s.fck := by
  unfold State.submit State.submitClear State.submitAir State.submitRoutine
  simp only []
  split_ifs <;> simp
@[simp] theorem State.submit_tmc (p : Payload) (a : Address) (sub : Submitter) (s : State) :
    (s.submit p a sub).1.tmc = s.tmc := by
  unfold State.submit State.submitClear State.submitAir State.submitRoutine
  simp only []
  split_ifs <;> simp
@[simp] theorem State.submit_fsc (p : Payload) (a : Address) (sub : Submitter) (s : State) :
    (s.submit p a sub).1.fsc = s.fsc := by
  unfold State.submit State.submitClear State.submitAir State.submitRoutine
  simp only []
  split_ifs <;> simp
@[simp] theorem State.submit_lne (p : Payload) (a : Address) (sub : Submitter) (s : State) :
    (s.submit p a sub).1.lne = s.lne := by
  unfold State.submit State.submitClear State.submitAir State.submitRoutine
  simp only []
  split_ifs <;> simp
@[simp] theorem State.submit_pcu (p : Payload) (a : Address) (sub : Submitter) (s : State) :
    (s.submit p a sub).1.pcu = s.pcu := by
  unfold State.submit State.submitClear State.submitAir State.submitRoutine
  simp only []
  split_ifs <;> simp
@[simp] theorem State.submit_sul (p : Payload) (a : Address) (sub : Submitter) (s : State) :
    (s.submit p a sub).1.sul = s.sul := by
  unfold State.submit State.submitClear State.submitAir State.submitRoutine
  simp only []
  split_ifs <;> simp
@[simp] theorem State.submit_pulseRest (p : Payload) (a : Address) (sub : Submitter) (s : State) :
    (s.submit p a sub).1.pulseRest = s.pulseRest := by
  unfold State.submit State.submitClear State.submitAir State.submitRoutine
  simp only []
  split_ifs <;> simp
@[simp] theorem State.submit_pending (p : Payload) (a : Address) (sub : Submitter) (s : State) :
    (s.submit p a sub).1.pending = s.pending := by
  unfold State.submit State.submitClear State.submitAir State.submitRoutine
  simp only []
  split_ifs <;> simp

/-- A submission that is no CLEAR leaves the port. -/
theorem State.submit_eqp (p : Payload) (a : Address) (sub : Submitter) (s : State) (h : p.kind ≠ .clear) :
    (s.submit p a sub).1.eqp = s.eqp := by
  unfold State.submit State.submitAir State.submitRoutine
  split_ifs <;> simp_all

/-- A submission that is refused changes nothing (R157). -/
theorem State.submit_refused (p : Payload) (a : Address) (sub : Submitter) (s : State)
    (h : (s.submit p a sub).2.isAdmitted = false) : (s.submit p a sub).1 = s := by
  revert h
  unfold State.submit State.submitClear State.submitAir State.submitRoutine
  simp only []
  split_ifs <;> simp [Admission.isAdmitted]

@[simp] theorem State.autoAttention_rls (r : Reason) (i : ItemId) (s : State) : (s.autoAttention r i).rls = s.rls := by
  unfold State.autoAttention
  split_ifs <;> simp
@[simp] theorem State.autoAttention_tke (r : Reason) (i : ItemId) (s : State) : (s.autoAttention r i).tke = s.tke := by
  unfold State.autoAttention
  split_ifs <;> simp
@[simp] theorem State.autoAttention_fck (r : Reason) (i : ItemId) (s : State) : (s.autoAttention r i).fck = s.fck := by
  unfold State.autoAttention
  split_ifs <;> simp
@[simp] theorem State.autoAttention_tmc (r : Reason) (i : ItemId) (s : State) : (s.autoAttention r i).tmc = s.tmc := by
  unfold State.autoAttention
  split_ifs <;> simp
@[simp] theorem State.autoAttention_fsc (r : Reason) (i : ItemId) (s : State) : (s.autoAttention r i).fsc = s.fsc := by
  unfold State.autoAttention
  split_ifs <;> simp
@[simp] theorem State.autoAttention_lne (r : Reason) (i : ItemId) (s : State) : (s.autoAttention r i).lne = s.lne := by
  unfold State.autoAttention
  split_ifs <;> simp
@[simp] theorem State.autoAttention_pcu (r : Reason) (i : ItemId) (s : State) : (s.autoAttention r i).pcu = s.pcu := by
  unfold State.autoAttention
  split_ifs <;> simp
@[simp] theorem State.autoAttention_sul (r : Reason) (i : ItemId) (s : State) : (s.autoAttention r i).sul = s.sul := by
  unfold State.autoAttention
  split_ifs <;> simp
@[simp] theorem State.autoAttention_pulseRest (r : Reason) (i : ItemId) (s : State) : (s.autoAttention r i).pulseRest = s.pulseRest := by
  unfold State.autoAttention
  split_ifs <;> simp
@[simp] theorem State.autoAttention_pending (r : Reason) (i : ItemId) (s : State) : (s.autoAttention r i).pending = s.pending := by
  unfold State.autoAttention
  split_ifs <;> simp

/-- An automatic ATTENTION leaves the port. -/
@[simp] theorem State.autoAttention_eqp (r : Reason) (i : ItemId) (s : State) : (s.autoAttention r i).eqp = s.eqp := by
  unfold State.autoAttention
  split_ifs
  · exact s.submit_eqp _ _ _ (by simp [Payload.kind])
  · rfl

@[simp] theorem State.announce_rls (s : State) : (s.announce).rls = s.rls := by
  unfold State.announce
  simp
@[simp] theorem State.announce_tke (s : State) : (s.announce).tke = s.tke := by
  unfold State.announce
  simp
@[simp] theorem State.announce_fck (s : State) : (s.announce).fck = s.fck := by
  unfold State.announce
  simp
@[simp] theorem State.announce_tmc (s : State) : (s.announce).tmc = s.tmc := by
  unfold State.announce
  simp
@[simp] theorem State.announce_fsc (s : State) : (s.announce).fsc = s.fsc := by
  unfold State.announce
  simp
@[simp] theorem State.announce_lne (s : State) : (s.announce).lne = s.lne := by
  unfold State.announce
  simp
@[simp] theorem State.announce_pcu (s : State) : (s.announce).pcu = s.pcu := by
  unfold State.announce
  simp
@[simp] theorem State.announce_sul (s : State) : (s.announce).sul = s.sul := by
  unfold State.announce
  simp
@[simp] theorem State.announce_pulseRest (s : State) : (s.announce).pulseRest = s.pulseRest := by
  unfold State.announce
  simp
@[simp] theorem State.announce_pending (s : State) : (s.announce).pending = s.pending := by
  unfold State.announce
  simp

/-- An ANNOUNCE leaves the port. -/
@[simp] theorem State.announce_eqp (s : State) : s.announce.eqp = s.eqp :=
  s.submit_eqp _ _ _ (by simp [Payload.kind])

/-! ### The Fire Scheduler (R81, R82, R8) -/

@[simp] theorem State.releaseIfPrimed_rls (id : ItemId) (x : Element) (s : State) : (s.releaseIfPrimed id x).rls = s.rls := by
  unfold State.releaseIfPrimed
  split_ifs <;> simp
@[simp] theorem State.releaseIfPrimed_tke (id : ItemId) (x : Element) (s : State) : (s.releaseIfPrimed id x).tke = s.tke := by
  unfold State.releaseIfPrimed
  split_ifs <;> simp
@[simp] theorem State.releaseIfPrimed_fck (id : ItemId) (x : Element) (s : State) : (s.releaseIfPrimed id x).fck = s.fck := by
  unfold State.releaseIfPrimed
  split_ifs <;> simp
@[simp] theorem State.releaseIfPrimed_tmc (id : ItemId) (x : Element) (s : State) : (s.releaseIfPrimed id x).tmc = s.tmc := by
  unfold State.releaseIfPrimed
  split_ifs <;> simp
@[simp] theorem State.releaseIfPrimed_fsc (id : ItemId) (x : Element) (s : State) : (s.releaseIfPrimed id x).fsc = s.fsc := by
  unfold State.releaseIfPrimed
  split_ifs <;> simp
@[simp] theorem State.releaseIfPrimed_lne (id : ItemId) (x : Element) (s : State) : (s.releaseIfPrimed id x).lne = s.lne := by
  unfold State.releaseIfPrimed
  split_ifs <;> simp
@[simp] theorem State.releaseIfPrimed_pcu (id : ItemId) (x : Element) (s : State) : (s.releaseIfPrimed id x).pcu = s.pcu := by
  unfold State.releaseIfPrimed
  split_ifs <;> simp
@[simp] theorem State.releaseIfPrimed_obq (id : ItemId) (x : Element) (s : State) : (s.releaseIfPrimed id x).obq = s.obq := by
  unfold State.releaseIfPrimed
  split_ifs <;> simp
@[simp] theorem State.releaseIfPrimed_sul (id : ItemId) (x : Element) (s : State) : (s.releaseIfPrimed id x).sul = s.sul := by
  unfold State.releaseIfPrimed
  split_ifs <;> simp
@[simp] theorem State.releaseIfPrimed_pulseRest (id : ItemId) (x : Element) (s : State) : (s.releaseIfPrimed id x).pulseRest = s.pulseRest := by
  unfold State.releaseIfPrimed
  split_ifs <;> simp
@[simp] theorem State.releaseIfPrimed_pending (id : ItemId) (x : Element) (s : State) : (s.releaseIfPrimed id x).pending = s.pending := by
  unfold State.releaseIfPrimed
  split_ifs <;> simp

@[simp] theorem State.overflow_tke (id : ItemId) (e : Nat) (s : State) : (s.overflow id e).tke = s.tke := by
  unfold State.overflow
  simp only []
  split_ifs <;> simp
@[simp] theorem State.overflow_fck (id : ItemId) (e : Nat) (s : State) : (s.overflow id e).fck = s.fck := by
  unfold State.overflow
  simp only []
  split_ifs <;> simp
@[simp] theorem State.overflow_tmc (id : ItemId) (e : Nat) (s : State) : (s.overflow id e).tmc = s.tmc := by
  unfold State.overflow
  simp only []
  split_ifs <;> simp
@[simp] theorem State.overflow_lne (id : ItemId) (e : Nat) (s : State) : (s.overflow id e).lne = s.lne := by
  unfold State.overflow
  simp only []
  split_ifs <;> simp
@[simp] theorem State.overflow_pcu (id : ItemId) (e : Nat) (s : State) : (s.overflow id e).pcu = s.pcu := by
  unfold State.overflow
  simp only []
  split_ifs <;> simp
@[simp] theorem State.overflow_sul (id : ItemId) (e : Nat) (s : State) : (s.overflow id e).sul = s.sul := by
  unfold State.overflow
  simp only []
  split_ifs <;> simp
@[simp] theorem State.overflow_pulseRest (id : ItemId) (e : Nat) (s : State) : (s.overflow id e).pulseRest = s.pulseRest := by
  unfold State.overflow
  simp only []
  split_ifs <;> simp
@[simp] theorem State.overflow_pending (id : ItemId) (e : Nat) (s : State) : (s.overflow id e).pending = s.pending := by
  unfold State.overflow
  simp only []
  split_ifs <;> simp

@[simp] theorem State.placeEntries_tke (id : ItemId) (e : Nat) (prime : Option Count) (go due : Count)
    (st : ElementState) (s : State) : (s.placeEntries id e prime go due st).1.tke = s.tke := by
  unfold State.placeEntries
  simp only []
  split_ifs <;> simp
@[simp] theorem State.placeEntries_fck (id : ItemId) (e : Nat) (prime : Option Count) (go due : Count)
    (st : ElementState) (s : State) : (s.placeEntries id e prime go due st).1.fck = s.fck := by
  unfold State.placeEntries
  simp only []
  split_ifs <;> simp
@[simp] theorem State.placeEntries_tmc (id : ItemId) (e : Nat) (prime : Option Count) (go due : Count)
    (st : ElementState) (s : State) : (s.placeEntries id e prime go due st).1.tmc = s.tmc := by
  unfold State.placeEntries
  simp only []
  split_ifs <;> simp
@[simp] theorem State.placeEntries_lne (id : ItemId) (e : Nat) (prime : Option Count) (go due : Count)
    (st : ElementState) (s : State) : (s.placeEntries id e prime go due st).1.lne = s.lne := by
  unfold State.placeEntries
  simp only []
  split_ifs <;> simp
@[simp] theorem State.placeEntries_pcu (id : ItemId) (e : Nat) (prime : Option Count) (go due : Count)
    (st : ElementState) (s : State) : (s.placeEntries id e prime go due st).1.pcu = s.pcu := by
  unfold State.placeEntries
  simp only []
  split_ifs <;> simp
@[simp] theorem State.placeEntries_sul (id : ItemId) (e : Nat) (prime : Option Count) (go due : Count)
    (st : ElementState) (s : State) : (s.placeEntries id e prime go due st).1.sul = s.sul := by
  unfold State.placeEntries
  simp only []
  split_ifs <;> simp
@[simp] theorem State.placeEntries_pulseRest (id : ItemId) (e : Nat) (prime : Option Count) (go due : Count)
    (st : ElementState) (s : State) : (s.placeEntries id e prime go due st).1.pulseRest = s.pulseRest := by
  unfold State.placeEntries
  simp only []
  split_ifs <;> simp
@[simp] theorem State.placeEntries_pending (id : ItemId) (e : Nat) (prime : Option Count) (go due : Count)
    (st : ElementState) (s : State) : (s.placeEntries id e prime go due st).1.pending = s.pending := by
  unfold State.placeEntries
  simp only []
  split_ifs <;> simp

/-- `eachElement` keeps whatever every element's operation keeps. -/
theorem State.eachElement_keeps {α : Type} (g : State → α) (id : ItemId) (f : Element → State → State)
    (h : ∀ x t, g (f x t) = g t) (s : State) : g (s.eachElement id f) = g s := by
  have key : ∀ (l : List Nat) (s : State),
      g (l.foldl (fun t e => match t.findElement id e with | none => t | some x => f x t) s) = g s := by
    intro l
    induction l with
    | nil => intro s; rfl
    | cons e l ih =>
      intro s
      rw [List.foldl_cons, ih]
      split
      · rfl
      · exact h _ _
  exact key _ s

/-- `placeEach` keeps whatever every element's operation and a submission keep. -/
theorem State.placeEach_keeps {α : Type} (g : State → α) (id : ItemId) (f : Element → State → State × Bool)
    (h : ∀ x t, g (f x t).1 = g t) (ha : ∀ r i t, g (State.autoAttention r i t) = g t) (s : State) :
    g (s.placeEach id f) = g s := by
  have key : ∀ (l : List Nat) (t : State × Bool),
      g (l.foldl (fun (t : State × Bool) e =>
        match t.1.findElement id e with
        | none => t
        | some x => let u := f x t.1; (u.1, t.2 || u.2)) t).1 = g t.1 := by
    intro l
    induction l with
    | nil => intro t; rfl
    | cons e l ih =>
      intro t
      rw [List.foldl_cons, ih]
      split
      · rfl
      · exact h _ _
  unfold State.placeEach
  simp only []
  split_ifs
  · rw [ha]; exact key _ _
  · exact key _ _

/-! ### The Timing Computer (R60): the result, the stage and the lamps, and the port -/

@[simp] theorem State.recompute_rls (s : State) : (s.recompute).rls = s.rls := by
  unfold State.recompute
  simp only []
  split_ifs <;> simp
@[simp] theorem State.recompute_tke (s : State) : (s.recompute).tke = s.tke := by
  unfold State.recompute
  simp only []
  split_ifs <;> simp
@[simp] theorem State.recompute_fck (s : State) : (s.recompute).fck = s.fck := by
  unfold State.recompute
  simp only []
  split_ifs <;> simp
@[simp] theorem State.recompute_fsc (s : State) : (s.recompute).fsc = s.fsc := by
  unfold State.recompute
  simp only []
  split_ifs <;> simp
@[simp] theorem State.recompute_lne (s : State) : (s.recompute).lne = s.lne := by
  unfold State.recompute
  simp only []
  split_ifs <;> simp
@[simp] theorem State.recompute_pcu (s : State) : (s.recompute).pcu = s.pcu := by
  unfold State.recompute
  simp only []
  split_ifs <;> simp
@[simp] theorem State.recompute_obq (s : State) : (s.recompute).obq = s.obq := by
  unfold State.recompute
  simp only []
  split_ifs <;> simp
@[simp] theorem State.recompute_sul (s : State) : (s.recompute).sul = s.sul := by
  unfold State.recompute
  simp only []
  split_ifs <;> simp
@[simp] theorem State.recompute_pulseRest (s : State) : (s.recompute).pulseRest = s.pulseRest := by
  unfold State.recompute
  simp only []
  split_ifs <;> simp
@[simp] theorem State.recompute_pending (s : State) : (s.recompute).pending = s.pending := by
  unfold State.recompute
  simp only []
  split_ifs <;> simp

/-- A recomputation leaves the result of the state itself (R60). -/
@[simp] theorem State.recompute_result (s : State) : s.recompute.tmc.result = some s.computeTiming := by
  unfold State.recompute
  simp only []
  split_ifs <;> simp [TimingComputer.after]

/-! ### The Take Engine and the outbound queues -/

@[simp] theorem State.changeControl_rls (new : Control) (c : ControlCause) (k : Nat) (s : State) : (s.changeControl new c k).rls = s.rls := by
  unfold State.changeControl
  simp
@[simp] theorem State.changeControl_fck (new : Control) (c : ControlCause) (k : Nat) (s : State) : (s.changeControl new c k).fck = s.fck := by
  unfold State.changeControl
  simp
@[simp] theorem State.changeControl_tmc (new : Control) (c : ControlCause) (k : Nat) (s : State) : (s.changeControl new c k).tmc = s.tmc := by
  unfold State.changeControl
  simp
@[simp] theorem State.changeControl_fsc (new : Control) (c : ControlCause) (k : Nat) (s : State) : (s.changeControl new c k).fsc = s.fsc := by
  unfold State.changeControl
  simp
@[simp] theorem State.changeControl_lne (new : Control) (c : ControlCause) (k : Nat) (s : State) : (s.changeControl new c k).lne = s.lne := by
  unfold State.changeControl
  simp
@[simp] theorem State.changeControl_pcu (new : Control) (c : ControlCause) (k : Nat) (s : State) : (s.changeControl new c k).pcu = s.pcu := by
  unfold State.changeControl
  simp
@[simp] theorem State.changeControl_sul (new : Control) (c : ControlCause) (k : Nat) (s : State) : (s.changeControl new c k).sul = s.sul := by
  unfold State.changeControl
  simp
@[simp] theorem State.changeControl_pulseRest (new : Control) (c : ControlCause) (k : Nat) (s : State) : (s.changeControl new c k).pulseRest = s.pulseRest := by
  unfold State.changeControl
  simp
@[simp] theorem State.changeControl_pending (new : Control) (c : ControlCause) (k : Nat) (s : State) : (s.changeControl new c k).pending = s.pending := by
  unfold State.changeControl
  simp


/-! ### A request at the port (R168, R169) -/

/-- What becomes of a request: discarded while RESTARTING or STARTING, counted while the port is occupied, and
otherwise answered with the reply of its owning block. -/
theorem State.request_cases (code : Byte) (f : State → Reply) (s : State) :
    (s.portTaking = .discarded ∧ s.request code f = s) ∨
    (s.portTaking = .overrun ∧ s.request code f = s.overrun) ∨
    (s.portTaking = .taken ∧ s.request code f =
      (f s).state.setEqp ((f s).state.eqp.offer code (f s).result (if (f s).result = .done then (f s).fields else []))) := by
  unfold State.request
  cases h : s.portTaking <;> simp

/-- The port takes a request exactly while the part runs and the port is IDLE or RECEIVING. -/
theorem State.portTaking_taken (s : State) :
    s.portTaking = .taken ↔ s.running = true ∧ (s.eqp.port = .idle ∨ s.eqp.port = .receiving) := by
  unfold State.portTaking
  cases s.running <;> cases s.eqp.port <;> simp

theorem State.portTaking_of_ready {s : State} (h : s.portReady) : s.portTaking = .taken :=
  s.portTaking_taken.2 ⟨h.1, .inl h.2⟩

/-- A request taken and refused with `r`: only the port changes (R10, R169). -/
theorem State.request_refuse {s : State} (h : s.portReady) {code : Byte} {f : State → Reply} {r : Result}
    (hf : f s = s.refuse r) (hr : r ≠ .done) :
    s.request code f = s.setEqp (s.eqp.offer code r []) := by
  have := State.portTaking_of_ready h
  simp [State.request, this, hf, State.refuse, hr]

/-- A request taken and completed DONE in the state `t` (R169). -/
theorem State.request_done {s t : State} (h : s.portReady) {code : Byte} {f : State → Reply} {fields : List Byte}
    (hf : f s = t.done fields) :
    s.request code f = t.setEqp (t.eqp.offer code .done fields) := by
  have := State.portTaking_of_ready h
  simp [State.request, this, hf, State.done]

end Sys2Proof.Machine
end

