-- ==== Sys2Proof/Laws/Cases.lean ====
section
/-! SUPPORT. For each shared operation, said once, what it can do: the cases of a submission, of placing and firing, of
a take placed, of a request and of a received frame, and the small laws of lists, flags and events they rest on. -/

namespace Sys2Proof.Machine

/-! ### Lists of entries -/

theorem modFirst_append {sel : QueueEntry → Bool} {f : QueueEntry → QueueEntry} {a b : List QueueEntry} {e : QueueEntry}
    (ha : ∀ x ∈ a, sel x = false) (he : sel e = true) : modFirst sel f (a ++ e :: b) = a ++ f e :: b := by
  induction a with
  | nil => simp [modFirst, he]
  | cons x a ih =>
    have hx := ha x (by simp)
    simp [modFirst, hx, ih fun y hy => ha y (by simp [hy])]

theorem dropFirst_append {sel : QueueEntry → Bool} {a b : List QueueEntry} {e : QueueEntry}
    (ha : ∀ x ∈ a, sel x = false) (he : sel e = true) : dropFirst sel (a ++ e :: b) = a ++ b := by
  induction a with
  | nil => simp [dropFirst, he]
  | cons x a ih =>
    have hx := ha x (by simp)
    simp [dropFirst, hx, ih fun y hy => ha y (by simp [hy])]

/-- A list of which nothing coalesces, or the first entry that does with what stands before and behind it. -/
theorem coalesceInto_append {p : Payload} {a : Address} {sub : Submitter} {l r : List QueueEntry} {e : QueueEntry}
    (hl : ∀ x ∈ l, coalesces p x = false) (he : coalesces p e = true) :
    coalesceInto p a sub (l ++ e :: r) =
      l ++ { e with payload := rewritten p e.payload, address := a, submitter := sub } :: r := by
  induction l with
  | nil => simp [coalesceInto, he]
  | cons x l ih =>
    have hx := hl x (by simp)
    simp [coalesceInto, hx, ih fun y hy => hl y (by simp [hy])]

/-- R80: an entry joins the queue and every other stays. -/
theorem insertEntry_perm (e : FireEntry) (l : List FireEntry) : (insertEntry e l).Perm (e :: l) := by
  induction l with
  | nil => simp [insertEntry]
  | cons x l ih =>
    unfold insertEntry
    split
    · exact (ih.cons x).trans (List.Perm.swap e x l)
    · exact List.Perm.refl _

@[simp] theorem mem_insertEntry {e g : FireEntry} {l : List FireEntry} : g ∈ insertEntry e l ↔ g = e ∨ g ∈ l := by
  simp [(insertEntry_perm e l).mem_iff]

@[simp] theorem length_insertEntry (e : FireEntry) (l : List FireEntry) : (insertEntry e l).length = l.length + 1 := by
  simp [(insertEntry_perm e l).length_eq]

/-- R80: no entry behind the new one is due at or before it. -/
theorem insertEntry_order (e : FireEntry) (l : List FireEntry) :
    ∃ a b, l = a ++ b ∧ insertEntry e l = a ++ e :: b ∧ ∀ y ∈ b, Count.atOrBefore y.due e.due = false := by
  induction l with
  | nil => exact ⟨[], [], rfl, rfl, by simp⟩
  | cons x l ih =>
    unfold insertEntry
    split
    · obtain ⟨a, b, rfl, h, hb⟩ := ih
      exact ⟨x :: a, b, rfl, by simp [h], hb⟩
    · rename_i h
      refine ⟨[], x :: l, rfl, rfl, ?_⟩
      simpa using h

/-! ### Flags and events -/

theorem SourceFlag.bit_lt (f : SourceFlag) : f.bit < 18 := by cases f <;> decide

theorem SourceFlag.bit_inj (f g : SourceFlag) : f.bit = g.bit ↔ f = g := by
  constructor
  · cases f <;> cases g <;> simp [SourceFlag.bit]
  · rintro rfl
    rfl

theorem SourceFlag.mask_getLsbD (f g : SourceFlag) : ((1 : BitVec 18) <<< f.bit).getLsbD g.bit = decide (f = g) := by
  cases f <;> cases g <;> rfl

/-- R174: raising a flag sets it and changes no other. -/
@[simp] theorem EquipmentPort.raise_flag (f g : SourceFlag) (e : EquipmentPort) :
    (e.raise f).flag g = (e.flag g || decide (f = g)) := by
  unfold EquipmentPort.raise
  split
  · rename_i h
    by_cases hfg : f = g
    · subst hfg
      simp [h]
    · simp [hfg]
  · simp only [EquipmentPort.driveAtn, EquipmentPort.flag, BitVec.getLsbD_or]
    rw [SourceFlag.mask_getLsbD]

@[simp] theorem EquipmentPort.raise_fifo (f : SourceFlag) (e : EquipmentPort) : (e.raise f).fifo = e.fifo := by
  unfold EquipmentPort.raise
  split <;> rfl

@[simp] theorem EquipmentPort.raise_enables (f : SourceFlag) (e : EquipmentPort) : (e.raise f).enables = e.enables := by
  unfold EquipmentPort.raise
  split <;> rfl

@[simp] theorem EquipmentPort.raise_port (f : SourceFlag) (e : EquipmentPort) : (e.raise f).port = e.port := by
  unfold EquipmentPort.raise
  split <;> rfl

@[simp] theorem EquipmentPort.raise_response (f : SourceFlag) (e : EquipmentPort) :
    (e.raise f).response = e.response := by
  unfold EquipmentPort.raise
  split <;> rfl

@[simp] theorem EquipmentPort.raise_overruns (f : SourceFlag) (e : EquipmentPort) :
    (e.raise f).overruns = e.overruns := by
  unfold EquipmentPort.raise
  split <;> rfl

@[simp] theorem EquipmentPort.raise_overflows (f : SourceFlag) (e : EquipmentPort) :
    (e.raise f).overflows = e.overflows := by
  unfold EquipmentPort.raise
  split <;> rfl

/-- R172: an event joins the tail while there is room, and is discarded otherwise. -/
theorem EquipmentPort.post_fifo (now : Count) (ev : Event) (e : EquipmentPort) :
    (e.post now ev).fifo = if 32 ≤ e.fifo.length then e.fifo else e.fifo ++ [⟨now, ev⟩] := by
  unfold EquipmentPort.post Config.fifoCapacity
  simp only []
  split
  · simp
  · split <;> simp

/-- A post raises the events and event-overflow flags alone. -/
theorem EquipmentPort.post_flag (now : Count) (ev : Event) (e : EquipmentPort) (f : SourceFlag) (h1 : f ≠ .events)
    (h2 : f ≠ .eventOverflow) : (e.post now ev).flag f = e.flag f := by
  unfold EquipmentPort.post
  simp only []
  split
  · rw [EquipmentPort.raise_flag]
    simp [Ne.symm h2, EquipmentPort.flag]
  · split
    · rw [EquipmentPort.raise_flag]
      simp [Ne.symm h1, EquipmentPort.flag]
    · rfl

/-- R172: a post raises EVENTS into an empty FIFO, EVENT_OVERFLOW at a full one, and no other flag. -/
theorem EquipmentPort.post_flag_iff (now : Count) (ev : Event) (e : EquipmentPort) (f : SourceFlag) :
    (e.post now ev).flag f = true ↔
      e.flag f = true ∨ if 32 ≤ e.fifo.length then f = .eventOverflow else f = .events ∧ e.fifo = [] := by
  unfold EquipmentPort.post Config.fifoCapacity
  split
  · rw [EquipmentPort.raise_flag]
    simp [EquipmentPort.flag, @eq_comm _ f]
  · cases h : e.fifo with
    | nil =>
      simp only [List.isEmpty_nil, if_true, EquipmentPort.raise_flag]
      simp [EquipmentPort.flag, @eq_comm _ f]
    | cons => simp [EquipmentPort.flag]

/-- R172: an event that a full FIFO discards is counted, up to 255. -/
theorem EquipmentPort.post_overflows (now : Count) (ev : Event) (e : EquipmentPort) :
    (e.post now ev).overflows = if 32 ≤ e.fifo.length then min 255 (e.overflows + 1) else e.overflows := by
  unfold EquipmentPort.post Config.fifoCapacity
  simp only []
  split
  · simp [Config.byteMax]
  · split <;> simp

/-- An event just posted stands in the FIFO, or the FIFO is full. -/
theorem State.posted_post (ev : Event) (s : State) : (s.post ev).posted ev := by
  intro h
  simp only [State.post, State.setEqp, EquipmentPort.post_fifo] at h ⊢
  split at h
  · omega
  · rename_i h'
    simp [h', State.now]

/-- A later post keeps an event that was posted at the same count. -/
theorem State.posted_post_of {s : State} {ev : Event} (ev' : Event) (h : s.posted ev) : (s.post ev').posted ev := by
  intro hl
  simp only [State.posted, State.post, State.setEqp, EquipmentPort.post_fifo, State.now] at h hl ⊢
  split at hl
  · omega
  · rename_i h'
    simp only [h', if_false]
    exact List.mem_append_left _ (h (by omega))

theorem State.posted_raise_of {s : State} {ev : Event} (f : SourceFlag) (h : s.posted ev) : (s.raise f).posted ev := by
  simpa [State.posted, State.raise, State.now] using h

/-- A state with the same port and count has the same events. -/
theorem State.posted_of_eq {s t : State} {ev : Event} (h : s.posted ev) (he : t.eqp.fifo = s.eqp.fifo)
    (hn : t.now = s.now) : t.posted ev := by
  unfold State.posted
  rw [he, hn]
  exact h

/-! ### The run list -/

theorem State.findItem_id {s : State} {id : ItemId} {x : Item} (h : s.findItem id = some x) : x.id = id := by
  simpa using List.find?_some h

theorem State.findItem_mem {s : State} {id : ItemId} {x : Item} (h : s.findItem id = some x) : x ∈ s.rls.items :=
  List.mem_of_find?_eq_some h

/-- A change of one item's record that keeps its ID reads back as that change. -/
theorem State.findItem_modItem {id k : ItemId} {f : Item → Item} (hf : ∀ x, (f x).id = x.id) (s : State) :
    (s.modItem id f).findItem k = if k = id then (s.findItem k).map f else s.findItem k := by
  simp only [State.findItem, State.modItem, State.setRls, modItemIn]
  induction s.rls.items with
  | nil => simp
  | cons x l ih =>
    simp only [List.map_cons, List.find?_cons, ih]
    by_cases hx : x.id = id
    · subst hx
      by_cases hk : x.id = k
      · subst hk
        simp [hf]
      · have hb : (x.id == k) = false := by simpa using hk
        simp [hf, hb]
    · have hb : (x.id == id) = false := by simpa using hx
      by_cases hk : x.id = k
      · subst hk
        simp [hx]
      · have hc : (x.id == k) = false := by simpa using hk
        simp [hb, hc]

/-! ### Submission (R157 to R165) -/

/-- Into the air queue: a coalescing entry is rewritten, a full queue refuses, otherwise the entry joins the tail. -/
theorem State.submitAir_cases (p : Payload) (a : Address) (sub : Submitter) (s : State) :
    (s.obq.air.any (coalesces p) = true ∧ s.submitAir p a sub =
      (s.setObq { s.obq with air := coalesceInto p a sub s.obq.air }, .admitted (coalescedSequence p s.obq.air))) ∨
    (s.obq.air.any (coalesces p) = false ∧ 8 ≤ s.obq.air.length ∧ s.submitAir p a sub = (s, .queueFull)) ∨
    (s.obq.air.any (coalesces p) = false ∧ s.obq.air.length < 8 ∧ s.submitAir p a sub =
      (s.setObq { s.obq with
        air := s.obq.air ++ [newEntry p a sub s.obq.sequence], sequence := sequenceAfter p.kind s.obq.sequence },
        .admitted (newEntry p a sub s.obq.sequence).sequence)) := by
  unfold State.submitAir Config.airCapacity
  cases s.obq.air.any (coalesces p)
  · by_cases h : 8 ≤ s.obq.air.length
    · simp [h]
    · simp [h]
      omega
  · simp

/-- Into the routine queue: a SEND is refused while BUSY, a full queue refuses, otherwise the entry joins the tail. -/
theorem State.submitRoutine_cases (p : Payload) (a : Address) (sub : Submitter) (s : State) :
    (s.obq.backpressure = .busy ∧ sub = .equipmentPort ∧ s.submitRoutine p a sub = (s, .queueBusy)) ∨
    (16 ≤ s.obq.routine.length ∧ s.submitRoutine p a sub = (s, .queueFull)) ∨
    (s.obq.routine.length < 16 ∧ s.submitRoutine p a sub =
      (s.setObq ({ s.obq with sequence := sequenceAfter p.kind s.obq.sequence }.setRoutine s.values
        (s.obq.routine ++ [newEntry p a sub s.obq.sequence])), .admitted (newEntry p a sub s.obq.sequence).sequence)) := by
  unfold State.submitRoutine Config.routineCapacity
  by_cases hb : (s.obq.backpressure == .busy && sub == .equipmentPort) = true
  · left
    simp only [Bool.and_eq_true, beq_iff_eq] at hb
    simp [hb.1, hb.2]
  · by_cases h : 16 ≤ s.obq.routine.length
    · right
      left
      simp [hb, h]
    · right
      right
      simp [hb, h]
      omega

/-- A CLEAR is refused when what it leaves fills the air queue, and otherwise purges it and stands behind the entry in
flight. -/
theorem State.submitClear_cases (a : Address) (sub : Submitter) (s : State) :
    let kept := s.obq.air.filter fun e => !removable e
    (8 ≤ kept.length ∧ s.submitClear a sub = (s, .queueFull)) ∨
    (kept.length < 8 ∧ (s.submitClear a sub).2 = .admitted (some s.obq.sequence) ∧
      (s.submitClear a sub).1.obq = { s.obq with
        air := behindFlight (newEntry .clear a sub s.obq.sequence) kept, sequence := s.obq.sequence + 1 }) := by
  unfold State.submitClear Config.airCapacity
  simp only []
  split
  · exact .inl ⟨‹_›, rfl⟩
  · refine .inr ⟨by omega, rfl, ?_⟩
    simp [sequenceAfter, Kind.acknowledged]

/-! ### The Fire Scheduler (R80 to R91) -/

@[simp] theorem State.withdraw_fsc (id : ItemId) (e : Nat) (s : State) :
    (s.withdraw id e).fsc = { s.fsc with queue := s.fsc.queue.filter fun x => !x.isOf id e } := rfl

/-- R82: the entries are placed all together or the overflow rule runs. -/
theorem State.placeEntries_cases (id : ItemId) (e : Nat) (prime : Option Count) (go due : Count) (st : ElementState)
    (s : State) :
    let needed : List FireEntry :=
      (match prime with | some q => [⟨q, .prime, id, e⟩] | none => []) ++ [⟨go, .go, id, e⟩]
    (s.fsc.free < needed.length ∧ s.placeEntries id e prime go due st = (s.overflow id e, false)) ∨
    (needed.length ≤ s.fsc.free ∧ (s.placeEntries id e prime go due st).2 = decide (0 < lateOf due go) ∧
      (s.placeEntries id e prime go due st).1.fsc =
        { s.fsc with queue := needed.foldl (fun q x => insertEntry x q) s.fsc.queue } ∧
      (s.placeEntries id e prime go due st).1.rls =
        ((s.modElement id e fun x => { x with state := st, remainder := none }).modItem id
          (Item.writeLate e (lateOf due go))).rls) := by
  cases prime <;> simp only [State.placeEntries] <;> split
  · exact .inl ⟨‹_›, rfl⟩
  · refine .inr ⟨by omega, ?_⟩
    split <;> exact ⟨rfl, rfl, rfl⟩
  · exact .inl ⟨‹_›, rfl⟩
  · refine .inr ⟨by omega, ?_⟩
    split <;> exact ⟨rfl, rfl, rfl⟩

/-- R87: an element that is not primable stays, a full queue overflows, otherwise a PRIME stands at the next frame. -/
theorem State.primeElement_cases (id : ItemId) (x : Element) (s : State) :
    (x.primable = false ∧ s.primeElement id x = s) ∨
    (x.primable = true ∧ s.fsc.free < 1 ∧ s.primeElement id x = s.overflow id x.id) ∨
    (x.primable = true ∧ 1 ≤ s.fsc.free ∧ s.primeElement id x =
      (s.setQueue (insertEntry ⟨s.nextFrame, .prime, id, x.id⟩ s.fsc.queue)).modElement id x.id
        fun y => { y with state := .scheduled }) := by
  unfold State.primeElement
  cases x.primable
  · simp
  · by_cases h : s.fsc.free < 1
    · simp [h]
    · simp [h]
      omega

/-- R90, R48: what the PRIME of an element does. -/
theorem State.firePrime_cases (id : ItemId) (e : Nat) (s : State) :
    (s.findElement id e = none ∧ s.firePrime id e = s) ∨
    (∃ x, s.findElement id e = some x ∧ s.suppresses = true ∧ s.firePrime id e = s.modElement id e Element.suppress) ∨
    ∃ x, s.findElement id e = some x ∧ s.suppresses = false ∧ s.firePrime id e =
      (s.modElement id e fun y => { y with state := .primed, primeFrame := some s.now }).post
        (.prime id e x.preRoll ((s.goEntry id e).map (·.due))) := by
  unfold State.firePrime
  cases hx : s.findElement id e with
  | none => simp
  | some x => cases hs : s.suppresses <;> simp

/-- R92 to R95: what a GO does to its fire line. -/
theorem State.driveLine_cases (n : Nat) (id : ItemId) (x : Element) (s : State) :
    (s.isLevel n = true ∧ (s.driveLine n id x).1 = s.setLine n (.held id x.id (s.holdEnd x.duration))) ∨
    (s.isLevel n = false ∧ ∃ i e, s.fsc.line n = .pulsing i e s.now ∧ s.driveLine n id x =
      ((s.raise .pulseMerged).post (.pulseMerged n i e id x.id), .merged)) ∨
    (s.isLevel n = false ∧ (∀ i e, s.fsc.line n ≠ .pulsing i e s.now) ∧ s.driveLine n id x =
      (s.setLine n (.pulsing id x.id s.now), .pulsed)) := by
  unfold State.driveLine
  cases hl : s.isLevel n
  · simp only [Bool.false_eq_true, if_false]
    cases hf : s.fsc.line n with
    | inactive => simp
    | held i e f => simp
    | pulsing i e b =>
      by_cases hb : b = s.now
      · subst hb
        exact .inr (.inl ⟨trivial, i, e, rfl, by simp⟩)
      · have hc : ¬b = s.fck.count := hb
        exact .inr (.inr ⟨trivial, by simp [hc], by simp [hc]⟩)
  · simp only [if_true]
    cases s.fsc.line n <;> simp

/-! ### The Take Engine (R36, R37) -/

/-- What placing a record against the pending take does. -/
theorem State.placeTake_cases (p : PendingTake) (s : State) :
    (s.tke.pendingTake = none ∧ s.placeTake p = s.setPendingTake (some p)) ∨
    (∃ old, s.tke.pendingTake = some old ∧ old.item = p.item ∧ Count.before p.air old.air = true ∧
      s.placeTake p = s.setPendingTake (some p)) ∨
    (∃ old, s.tke.pendingTake = some old ∧ old.item = p.item ∧ Count.before p.air old.air = false ∧
      s.placeTake p = s) ∨
    ∃ old, s.tke.pendingTake = some old ∧ old.item ≠ p.item ∧ s.placeTake p =
      ((s.markSuperseded old).setPendingTake (some p)).post
        (.takeSuperseded old.item old.air p.item p.air p.sender .superseded) := by
  unfold State.placeTake
  cases s.tke.pendingTake with
  | none => simp
  | some old =>
    by_cases h : old.item = p.item
    · cases hb : Count.before p.air old.air <;> simp [h, hb]
    · simp [h]

/-- The entry at the tail is tied, and no other. -/
theorem tieTail_append (e : QueueEntry) : ∀ l : List QueueEntry,
    tieTail (l ++ [e]) = l.map (fun x => { x with tied := false }) ++ [{ e with tied := true }]
  | [] => rfl
  | [_] => rfl
  | _ :: b :: l => congrArg _ (tieTail_append e (b :: l))

/-- A record that takes the place of the one held is the pending take; any other leaves the state as it is (R36). -/
theorem State.placeTake_held (p : PendingTake) (s : State) :
    (s.takesPlace p = true ∧ (s.placeTake p).tke = { s.tke with pendingTake := some p }) ∨
      (s.takesPlace p = false ∧ s.placeTake p = s) := by
  rcases s.placeTake_cases p with ⟨h, e⟩ | ⟨old, h, hi, hb, e⟩ | ⟨old, h, hi, hb, e⟩ | ⟨old, h, hi, e⟩
  · exact .inl ⟨by simp [State.takesPlace, h], by rw [e]; rfl⟩
  · exact .inl ⟨by simp [State.takesPlace, h, hb], by rw [e]; rfl⟩
  · exact .inr ⟨by simp [State.takesPlace, h, hi, hb], e⟩
  · refine .inl ⟨by simp [State.takesPlace, h, hi], ?_⟩
    rw [e]
    cases hm : old.made <;> simp [State.markSuperseded, hm, State.setPendingTake, State.setTke, State.setObq]

/-- R37: what discarding the pending take does. -/
theorem State.discardTake_cases (c : SupersedeCause) (s : State) :
    (s.tke.pendingTake = none ∧ s.discardTake c = s) ∨
    ∃ p, s.tke.pendingTake = some p ∧ s.discardTake c =
      (s.setPendingTake none).post (.takeSuperseded p.item p.air 0 0 0 c) := by
  unfold State.discardTake
  cases s.tke.pendingTake <;> simp

/-! ### The Timing Computer (R60, R73 to R75) -/

/-- A recomputation writes the Timing Computer from the new result. -/
@[simp] theorem State.recompute_tmc (s : State) :
    s.recompute.tmc = s.tmc.after (s.hasRole floorBit) (s.values.overAlarmTime * s.rate) s.computeTiming := by
  unfold State.recompute
  simp only []
  split_ifs <;> simp

/-- The timing is recomputed of the state that a recomputation leaves. -/
theorem State.recomputed_recompute (s : State) : s.recompute.recomputed := by
  unfold State.recomputed
  rw [State.recompute_result]
  have h : s.recompute.computeTiming = s.computeTiming := by
    simp [State.computeTiming, State.onAirTiming, State.counted, State.afterPosition, State.position, State.tod,
      State.day, State.rate, State.values, State.now, State.findItem]
  rw [h]

/-! ### A received frame (R106, R111 to R113) -/

/-- A frame that is not received changes nothing. -/
theorem State.receive_of_not {kd : Kind} {f : RxFrame} {effect : State → State} {s : State}
    (h : (s.mayReceive && f.wire.heardAs kd) = false) : s.receive kd f effect = s := by
  simp [State.receive, h]

/-- What the decision of a heard frame can be: a conflict, an acceptance that hands the frame on or drops a repeat, or
none. -/
theorem State.decideFrame_cases (kd : Kind) (w : Wire) (effect : State → State) (s : State) :
    let u := s.census kd w
    (u.conflicts kd w = true ∧ s.decideFrame kd w effect = (u.numberConflict kd, false)) ∨
    (u.conflicts kd w = false ∧ u.accepts kd w = true ∧ s.decideFrame kd w effect = (u.handFrame kd w effect, true)) ∨
    (u.conflicts kd w = false ∧ u.accepts kd w = false ∧ s.decideFrame kd w effect = (u, false)) := by
  simp only [State.decideFrame]
  cases (s.census kd w).conflicts kd w <;> cases (s.census kd w).accepts kd w <;> simp

/-! ### The line between frames (R103) -/

/-- Recessive bit times change the Line Engine alone. -/
theorem State.lineBits_recessive (n : Nat) (s : State) :
    s.lineBits (List.replicate n false) = s.setLne (s.lineBits (List.replicate n false)).lne := by
  induction n generalizing s with
  | zero => rfl
  | succ n ih =>
    have h : s.lineBits (List.replicate (n + 1) false) =
        (s.setLne s.lne.recessive).lineBits (List.replicate n false) := rfl
    rw [h, ih]
    rfl

/-! ### The bits of an attempt -/

/-- Bits that are all as sent let the attempt go on, as far as both rows reach (R107). -/
theorem compareBits_same (limit : Nat) (same : List Bool) : ∀ (n : Nat) (sent read : List Bool),
    compareBits limit n (same ++ sent) (same ++ read) = compareBits limit (n + same.length) sent read := by
  induction same with
  | nil => simp
  | cons a l ih => intro n sent read; simp [compareBits, ih, Nat.add_comm, Nat.add_left_comm]

@[simp] theorem compareBits_nil_read (limit n : Nat) (sent : List Bool) : compareBits limit n sent [] = .goesOn n := by
  cases sent <;> rfl

@[simp] theorem compareBits_nil_sent (limit n : Nat) (read : List Bool) : compareBits limit n [] read = .goesOn n := rfl

/-- The first bit read otherwise than sent decides (R107 to R109). -/
theorem compareBits_differs {a b : Bool} (h : a ≠ b) (limit n : Nat) (same sent read : List Bool) :
    compareBits limit n (same ++ a :: sent) (same ++ b :: read) = readingOf limit (n + same.length) b := by
  rw [compareBits_same]
  simp [compareBits, h]

/-- All that a row of bits read can make of an attempt: as far as both rows reach they agree and it goes on, or they agree
up to a first difference and that one decides. -/
theorem compareBits_cases (limit : Nat) : ∀ (n : Nat) (sent read : List Bool),
    compareBits limit n sent read = .goesOn (n + min sent.length read.length) ∧ (sent <+: read ∨ read <+: sent) ∨
      ∃ same a b sent' read', a ≠ b ∧ sent = same ++ a :: sent' ∧ read = same ++ b :: read' ∧
        compareBits limit n sent read = readingOf limit (n + same.length) b
  | n, [], read => .inl ⟨by simp, .inl List.nil_prefix⟩
  | n, _ :: _, [] => .inl ⟨by simp, .inr List.nil_prefix⟩
  | n, a :: sent, b :: read => by
    by_cases h : a = b
    · subst h
      rcases compareBits_cases limit (n + 1) sent read with ⟨hg, hp⟩ | ⟨same, a', b', s', r', hne, hs, hr, hc⟩
      · refine .inl ⟨?_, by simpa using hp⟩
        simp [compareBits, hg]; omega
      · refine .inr ⟨a :: same, a', b', s', r', hne, by simp [hs], by simp [hr], ?_⟩
        simp [compareBits, hc, Nat.add_assoc, Nat.add_comm 1]
    · exact .inr ⟨[], a, b, sent, read, h, rfl, rfl, by simp [compareBits, h]⟩

@[simp] theorem State.goOnDriving_lne (n : Nat) (s : State) : (s.goOnDriving n).lne =
    { s.lne with part := if arbitrationBits ≤ n then .sending else s.lne.part, read := n } := rfl

/-- What a dominant bit time in IDLE leaves: a start bit that the station has not driven (R103). -/
@[simp] theorem LineEngine.dominant_idle {l : LineEngine} (h : l.phase = .idle) : l.dominant = l.startBit := by
  simp [LineEngine.dominant, h]

@[simp] theorem LineEngine.startBit_phase (l : LineEngine) : l.startBit.phase = .frame none := rfl
@[simp] theorem LineEngine.startBit_part (l : LineEngine) : l.startBit.part = .listening := rfl
@[simp] theorem LineEngine.startBit_tx (l : LineEngine) : l.startBit.tx = l.tx := rfl
/-! ### The Frame Clock's own steps (R50) -/

@[simp] theorem State.advanceCount_fck (s : State) : s.advanceCount.fck = { s.fck with
    count := s.fck.count + 1, offset := wrapOffset s.day s.fck.count s.fck.offset } := rfl

/-- All that the third step can do: nothing without a setting; with one, the offset, and no-time when it was absent. -/
theorem State.applyTime_cases (s : State) :
    (s.fck.pendingTime = none ∧ s.applyTime = s) ∨
      ∃ v, s.fck.pendingTime = some v ∧
        s.applyTime.fck = { s.fck with
          offset := some (((v : Int) - s.fck.count.toNat) % s.day).toNat, pendingTime := none } ∧
        s.applyTime = (s.setFck s.applyTime.fck).setEqp s.applyTime.eqp ∧
        s.applyTime.eqp = if s.fck.offset.isNone then s.eqp.lower .noTime else s.eqp := by
  cases h : s.fck.pendingTime with
  | none => exact .inl ⟨rfl, by simp [State.applyTime, h]⟩
  | some v =>
    refine .inr ⟨v, rfl, ?_⟩
    cases ho : s.fck.offset <;> simp [State.applyTime, h, ho, State.lower, State.setFck, State.setEqp]

/-- The fourth step writes the three filters alone. -/
theorem State.sampleInputs_fst (p : Pulse) (s : State) : (s.sampleInputs p).1 = s.setFck { s.fck with
    takeInput := (s.sampleInputs p).1.fck.takeInput, forceInput := (s.sampleInputs p).1.fck.forceInput,
    localInput := (s.sampleInputs p).1.fck.localInput } := rfl

end Sys2Proof.Machine
end

