-- ==== Sys2Proof/Laws/PerInstr.lean ====
section
/-! SUPPORT. The statement made command by command: what the transfer of a request begins with. -/

namespace Sys2Proof.Laws

/-- The transfer that spells a request begins with the request's code, which is never 0x00, the byte of a read transfer,
and its next byte counts the bytes that follow (R190). -/
def Transfer.Statement (i : Instr) : Prop :=
  ∀ b, encodeRequest i = some b → ∃ code f, b = code :: BitVec.ofNat 8 f.length :: f ∧ code ≠ 0

/-- The transfer of a code other than 0x00. -/
theorem transfer_of {c : Byte} {f b : List Byte} (hc : c ≠ 0) (h : some (requestFrame c f) = some b) :
    ∃ code f, b = code :: BitVec.ofNat 8 f.length :: f ∧ code ≠ 0 :=
  ⟨c, f, (Option.some.inj h).symm, hc⟩

theorem Transfer.powerOn x0 : Transfer.Statement (.powerOn x0) := fun _ h => nomatch h
theorem Transfer.resetActive : Transfer.Statement .resetActive := fun _ h => nomatch h
theorem Transfer.restartEnd x0 : Transfer.Statement (.restartEnd x0) := fun _ h => nomatch h
theorem Transfer.framePulse x0 : Transfer.Statement (.framePulse x0) := fun _ h => nomatch h
theorem Transfer.refLost x0 : Transfer.Statement (.refLost x0) := fun _ h => nomatch h
theorem Transfer.internalPulse x0 : Transfer.Statement (.internalPulse x0) := fun _ h => nomatch h
theorem Transfer.refBack x0 x1 : Transfer.Statement (.refBack x0 x1) := fun _ h => nomatch h
theorem Transfer.setTimeApplied : Transfer.Statement .setTimeApplied := fun _ h => nomatch h
theorem Transfer.takeExecution : Transfer.Statement .takeExecution := fun _ h => nomatch h
theorem Transfer.primeExecution : Transfer.Statement .primeExecution := fun _ h => nomatch h
theorem Transfer.goExecution : Transfer.Statement .goExecution := fun _ h => nomatch h
theorem Transfer.pulseEnd x0 : Transfer.Statement (.pulseEnd x0) := fun _ h => nomatch h
theorem Transfer.levelHoldEnd x0 : Transfer.Statement (.levelHoldEnd x0) := fun _ h => nomatch h
theorem Transfer.pollTimeout : Transfer.Statement .pollTimeout := fun _ h => nomatch h
theorem Transfer.claimResubmit : Transfer.Statement .claimResubmit := fun _ h => nomatch h
theorem Transfer.lineIdle x0 : Transfer.Statement (.lineIdle x0) := fun _ h => nomatch h
theorem Transfer.lineStuck x0 : Transfer.Statement (.lineStuck x0) := fun _ h => nomatch h
theorem Transfer.sendOpportunity : Transfer.Statement .sendOpportunity := fun _ h => nomatch h
theorem Transfer.contentionLost x0 : Transfer.Statement (.contentionLost x0) := fun _ h => nomatch h
theorem Transfer.collision : Transfer.Statement .collision := fun _ h => nomatch h
theorem Transfer.attemptSent x0 : Transfer.Statement (.attemptSent x0) := fun _ h => nomatch h
theorem Transfer.frameNotHeard x0 : Transfer.Statement (.frameNotHeard x0) := fun _ h => nomatch h
theorem Transfer.takeFrame x0 : Transfer.Statement (.takeFrame x0) := fun _ h => nomatch h
theorem Transfer.clearFrame x0 : Transfer.Statement (.clearFrame x0) := fun _ h => nomatch h
theorem Transfer.standbyFrame x0 : Transfer.Statement (.standbyFrame x0) := fun _ h => nomatch h
theorem Transfer.holdFrame x0 : Transfer.Statement (.holdFrame x0) := fun _ h => nomatch h
theorem Transfer.resumeFrame x0 : Transfer.Statement (.resumeFrame x0) := fun _ h => nomatch h
theorem Transfer.stretchFrame x0 : Transfer.Statement (.stretchFrame x0) := fun _ h => nomatch h
theorem Transfer.cueFrame x0 : Transfer.Statement (.cueFrame x0) := fun _ h => nomatch h
theorem Transfer.sweepFrame x0 : Transfer.Statement (.sweepFrame x0) := fun _ h => nomatch h
theorem Transfer.attentionFrame x0 : Transfer.Statement (.attentionFrame x0) := fun _ h => nomatch h
theorem Transfer.dropFrame x0 : Transfer.Statement (.dropFrame x0) := fun _ h => nomatch h
theorem Transfer.floatFrame x0 : Transfer.Statement (.floatFrame x0) := fun _ h => nomatch h
theorem Transfer.restoreFrame x0 : Transfer.Statement (.restoreFrame x0) := fun _ h => nomatch h
theorem Transfer.pollFrame x0 : Transfer.Statement (.pollFrame x0) := fun _ h => nomatch h
theorem Transfer.statusFrame x0 : Transfer.Statement (.statusFrame x0) := fun _ h => nomatch h
theorem Transfer.lockoutFrame x0 : Transfer.Statement (.lockoutFrame x0) := fun _ h => nomatch h
theorem Transfer.releaseFrame x0 : Transfer.Statement (.releaseFrame x0) := fun _ h => nomatch h
theorem Transfer.announceFrame x0 : Transfer.Statement (.announceFrame x0) := fun _ h => nomatch h
theorem Transfer.claimFrame x0 : Transfer.Statement (.claimFrame x0) := fun _ h => nomatch h
theorem Transfer.portRead x0 : Transfer.Statement (.portRead x0) := fun _ h => nomatch h
theorem Transfer.badRequestFrame x0 : Transfer.Statement (.badRequestFrame x0) := fun _ h => nomatch h
theorem Transfer.loadItem x0 x1 x2 x3 x4 : Transfer.Statement (.loadItem x0 x1 x2 x3 x4) := fun _ h => transfer_of (by decide) h
theorem Transfer.amendItem x0 x1 x2 x3 x4 : Transfer.Statement (.amendItem x0 x1 x2 x3 x4) := fun _ h => transfer_of (by decide) h
theorem Transfer.moveItem x0 x1 : Transfer.Statement (.moveItem x0 x1) := fun _ h => transfer_of (by decide) h
theorem Transfer.deleteItem x0 : Transfer.Statement (.deleteItem x0) := fun _ h => transfer_of (by decide) h
theorem Transfer.loadElement x0 x1 x2 x3 x4 x5 x6 x7 x8 : Transfer.Statement (.loadElement x0 x1 x2 x3 x4 x5 x6 x7 x8) := fun _ h => transfer_of (by decide) h
theorem Transfer.deleteElement x0 x1 : Transfer.Statement (.deleteElement x0 x1) := fun _ h => transfer_of (by decide) h
theorem Transfer.setReady x0 x1 x2 : Transfer.Statement (.setReady x0 x1 x2) := fun _ h => transfer_of (by decide) h
theorem Transfer.floatRequest x0 : Transfer.Statement (.floatRequest x0) := fun _ h => transfer_of (by decide) h
theorem Transfer.restoreRequest x0 : Transfer.Statement (.restoreRequest x0) := fun _ h => transfer_of (by decide) h
theorem Transfer.send x0 x1 x2 x3 x4 : Transfer.Statement (.send x0 x1 x2 x3 x4) := fun _ h => transfer_of (by decide) h
theorem Transfer.takeNext x0 : Transfer.Statement (.takeNext x0) := fun _ h => transfer_of (by decide) h
theorem Transfer.standbyNext : Transfer.Statement .standbyNext := fun _ h => transfer_of (by decide) h
theorem Transfer.setControl x0 : Transfer.Statement (.setControl x0) := fun _ h => transfer_of (by decide) h
theorem Transfer.setTime x0 : Transfer.Statement (.setTime x0) := fun _ h => transfer_of (by decide) h
theorem Transfer.call x0 : Transfer.Statement (.call x0) := fun _ h => transfer_of (by decide) h
theorem Transfer.readItem x0 x1 : Transfer.Statement (.readItem x0 x1) := fun _ h => transfer_of (by decide) h
theorem Transfer.readTiming x0 : Transfer.Statement (.readTiming x0) := fun _ h => transfer_of (by decide) h
theorem Transfer.readPeers : Transfer.Statement .readPeers := fun _ h => transfer_of (by decide) h
theorem Transfer.readSweep : Transfer.Statement .readSweep := fun _ h => transfer_of (by decide) h
theorem Transfer.readPoll : Transfer.Statement .readPoll := fun _ h => transfer_of (by decide) h
theorem Transfer.readAttention : Transfer.Statement .readAttention := fun _ h => transfer_of (by decide) h
theorem Transfer.ackAttention x0 x1 : Transfer.Statement (.ackAttention x0 x1) := fun _ h => transfer_of (by decide) h
theorem Transfer.fetchEvents x0 : Transfer.Statement (.fetchEvents x0) := fun _ h => transfer_of (by decide) h
theorem Transfer.fetchSummary : Transfer.Statement .fetchSummary := fun _ h => transfer_of (by decide) h
theorem Transfer.ackFlags x0 : Transfer.Statement (.ackFlags x0) := fun _ h => transfer_of (by decide) h
theorem Transfer.setGroupEnables x0 : Transfer.Statement (.setGroupEnables x0) := fun _ h => transfer_of (by decide) h
theorem Transfer.readRestart : Transfer.Statement .readRestart := fun _ h => transfer_of (by decide) h
theorem Transfer.restartRequest x0 : Transfer.Statement (.restartRequest x0) := fun _ h => transfer_of (by decide) h
theorem Transfer.endFieldDominantBit : Transfer.Statement .endFieldDominantBit := fun _ h => nomatch h

end Sys2Proof.Laws
end

