-- ==== Sys2Proof/Laws/Readings.lean ====
section
/-! SUPPORT. What the words of the statements say in the model's own operations: the tests of a received frame, the bytes
of a layout, and what a number conflict and a sweep result leave in the Take Engine. -/

namespace Sys2Proof.Machine

/-! ### The tests of a received frame -/

theorem State.isAddressed_iff (s : State) (w : Wire) : s.isAddressed w ↔ s.addressed w = true := by
  unfold State.isAddressed State.addressed Wire.number
  cases w.byNumber <;> simp

theorem State.isRepeat_iff (s : State) (w : Wire) : s.isRepeat w ↔ s.repeats w = true := by
  simp [State.isRepeat, State.repeats, Wire.sequence, Option.bind_eq_some_iff]

theorem namesItem_iff (b : List Byte) (n : Nat) : namesItem b n ↔ validItem (field16 b n) = true := by
  simp [namesItem, validItem]

theorem Control.isSome_ofCode (b : Byte) : (Control.ofCode b).isSome = true ↔ b.toNat ≤ 3 := by
  revert b; decide +kernel

theorem Reason.isSome_ofCode (b : Byte) : (Reason.ofCode b).isSome = true ↔ b.toNat ≤ 3 := by
  revert b; decide +kernel

theorem State.awaits_iff (s : State) (k : Nat) : s.awaits k = true ↔ ∃ f, s.pcu.poll = .awaiting k f := by
  unfold State.awaits
  split <;> simp_all

theorem State.isReadyFor_iff (s : State) (X : ItemId) :
    validItem X = true ∧ s.isReadyFor X ↔ s.readyFor X = true := by
  have hc : s.suppresses = false ↔ s.tke.control = .remote ∨ s.tke.control = .remoteLocked := by
    unfold State.suppresses Control.isLocal
    cases s.tke.control <;> simp
  unfold State.isReadyFor State.readyFor
  cases hf : s.findItem X with
  | none => simp [hc]
  | some x =>
    simp only [Option.some.injEq, forall_eq', Bool.and_eq_true, Bool.not_eq_true', hc, Bool.or_eq_true,
      List.isEmpty_iff, Item.notReady, List.any_eq_false, FireScheduler.free, Config.fireCapacity,
      and_assoc]
    refine and_congr_right fun _ => and_congr_right fun _ => ?_
    by_cases he : x.elements = []
    · simp [he]
    · have hp : 0 < x.elements.length := List.length_pos_of_ne_nil he
      have hm : x.elements.filter Element.primable = x.elements.filter fun e => decide (0 < e.preRoll) := rfl
      simp only [he, false_or, hm]
      refine and_congr ?_ (by rw [decide_eq_true_eq]; omega)
      simp

theorem State.passesTest_iff (s : State) (w : Wire) (kd : Kind) : s.passesTest w kd ↔ s.kindTest kd w = true := by
  cases kd <;>
    simp [State.passesTest, State.kindTest, namesItem_iff, Wire.item, Wire.number, controlField, reportableItem,
      Control.isSome_ofCode, Reason.isSome_ofCode, State.awaits_iff, ← State.isReadyFor_iff, State.hasRole, floorBit,
      directorBit, autoStage, and_assoc]
  case take => exact fun _ => Iff.rfl
  case status => exact fun _ _ _ _ _ _ => Iff.rfl
  case claim => intro _ h; rw [h]

/-! ### The bytes of a layout -/

theorem be_range (n v : Nat) : (List.range n).map (fun k => BitVec.ofNat 8 (v / 256 ^ (n - 1 - k))) = be n v := by
  induction n with
  | zero => rfl
  | succ n ih =>
    rw [List.range_succ_eq_map, List.map_cons, List.map_map, be, ← ih]
    refine congrArg₂ _ (by simp) (List.map_congr_left fun k _ => ?_)
    simp only [Function.comp, Nat.succ_eq_add_one]
    congr 3
    omega

@[simp] theorem fieldBytes_nil : fieldBytes [] = [] := rfl

@[simp] theorem fieldBytes_cons (n v : Nat) (l : List ByteField) : fieldBytes ((n, v) :: l) = be n v ++ fieldBytes l := by
  simp [fieldBytes, be_range]

@[simp] theorem fieldBytes_append (l r : List ByteField) : fieldBytes (l ++ r) = fieldBytes l ++ fieldBytes r := by
  simp [fieldBytes]

theorem fieldBytes_flatMap {α : Type} (f : α → List ByteField) (l : List α) :
    fieldBytes (l.flatMap f) = l.flatMap fun x => fieldBytes (f x) := by
  induction l with
  | nil => rfl
  | cons x l ih => simp [ih]

@[simp] theorem fieldBytes_option (n : Nat) (v : Option Nat) : fieldBytes (optionFields n v) = beOption n v := by
  cases v <;> simp [optionFields, beOption, be]

theorem Kind.idxOf_kindList (k : Kind) : kindList.idxOf k = k.code := by cases k <;> rfl
theorem Reason.idxOf_reasonList (r : Reason) : reasonList.idxOf r = r.code.toNat := by cases r <;> rfl
theorem Control.idxOf_controlList (c : Control) : controlList.idxOf c = c.code.toNat := by cases c <;> rfl
theorem Stage.idxOf_stageList (s : Stage) : stageList.idxOf s = s.code.toNat := by cases s <;> rfl
theorem Presence.idxOf_presenceList (p : Presence) : presenceList.idxOf p = p.code.toNat := by cases p <;> rfl

/-! ### The guarded take -/

@[simp] theorem State.numberConflict_tke (kd : Kind) (s : State) :
    (s.numberConflict kd).tke = s.tke.lapseGuarded := by
  unfold State.numberConflict State.beginClaim State.submitClaim
  simp only
  split <;> simp

theorem State.guardDecide_none {r : SweepResult} {s : State} (h : s.tke.guarded = none) : s.guardDecide r = s := by
  simp [State.guardDecide, h]

end Sys2Proof.Machine
end

