-- ==== Sys2Proof/Tests/Slice0.lean ====
section
/-! SUPPORT. Own tests: the well-formedness checks, a few cases that the manual works out, and for each statement with
hypotheses a state and operands that meet them. -/

namespace Sys2Proof.Tests

-- One theorem after another: each kernel evaluation would else hold a thread of its own.
set_option Elab.async false
open Sys2Proof Sys2Proof.Machine

/-! ### Small states -/

/-- An element, IDLE. -/
def el (id : Nat) (a : Anchor) (offset preRoll : Nat) : Element :=
  { id := id, anchor := a, offset := offset, preRoll := preRoll, needsReady := false, ready := false, target := .line 0,
    duration := 0, takeOff := .cancel, state := .idle, primeFrame := none, remainder := none, late := 0 }

/-- An item with a planned duration of 1,500. -/
def it (id : ItemId) (st : ItemState) (els : List Element) : Item :=
  { newItem id 1500 none .item with state := st, elements := els }

/-- Station 5, ACTIVE and idle on an idle line, with an empty list, at count 1,000. -/
def base : State :=
  { State.reset with
    fck := { FrameClock.fresh 7 with count := 1000, takeInput := ⟨none, .inactive⟩, forceInput := ⟨none, .inactive⟩,
                                     localInput := ⟨none, .inactive⟩ }
    lne := { LineEngine.fresh with phase := .idle }
    pcu := { PeerCensus.fresh 0 0 with ownNumber := 5, mode := .active }
    eqp := { EquipmentPort.fresh 31 with port := .idle }
    sul := { State.reset.sul with phase := .running } }

/-- The same station with other configuration values. -/
def withValues (v : Config.Values) (s : State) : State := { s with sul := { s.sul with values := v } }

/-- Items 1 to 5 in the five states: 1 on the air since count 900 with an END element SCHEDULED, 2 in standby. -/
def showing : State :=
  { base with
    rls := ⟨[{ it 1 .onAir [{ el 1 .ending 0 10 with state := .scheduled }, el 2 .start 0 0] with airStart := some 900 },
      it 2 .standby [{ el 1 .start 0 5 with state := .primed, primeFrame := some 990 }], it 3 .waiting [el 1 .start 0 5],
      it 4 .floated [], it 5 .aired []]⟩
    fsc := { FireScheduler.fresh with queue := [⟨2390, .prime, 1, 1⟩, ⟨2400, .go, 1, 1⟩] }
    tke := { TakeEngine.fresh with onAir := .own 1, standby := some 2, lastAired := some 1 } }

/-- The same with the on-air item held and its END element HELD. -/
def holding : State :=
  { showing with
    rls := ⟨{ it 1 .onAir [{ el 1 .ending 0 10 with state := .held, remainder := some 1400 }] with
        airStart := some 900, held := true } :: showing.rls.items.drop 1⟩
    fsc := FireScheduler.fresh }

/-- An undivided frame pulse with quiet inputs. -/
def quiet : Pulse := { take := false, force := false, localSw := false, place := .first, localFirst := false, divided := false }

/-- A frame as received whole, with no slot dominant. -/
def rx (k : Kind) (sender : Nat) (a : Address) (body : List Byte) : RxFrame :=
  { wire := Wire.make k sender a body, slots := 0, startAgo := 0 }

/-- An unsent queue entry to all stations. -/
def entry (p : Payload) : QueueEntry := newEntry p toAll .equipmentPort 40

/-- An entry in flight, its attempts and its sets. -/
def flying (p : Payload) (f : Flight) : QueueEntry := { entry p with flight := some f }

/-- A take of an item at the count of `base`. -/
def take (i : ItemId) : PendingTake :=
  { item := i, air := 1000, arrival := 996, sender := 7, sequence := 3, carried := 250, late := false, made := false }

/-- A PRESENT peer of the CLIP role. -/
def clipPeer : Peer :=
  { presence := .present, roles := some 4, identity := none, control := none, onAir := none, standby := none,
    lastSequence := none, misses := 0, lastHeard := none }

/-- `base` with peer 7. -/
def peered : State := { base with pcu := { base.pcu with peers := base.pcu.peers.set 6 (some clipPeer) } }

/-- An image: its first bytes, the rest of thirty 0, and the check (R192). -/
def image (l : List Byte) : List Byte := padTo 30 l ++ bytes16 (crc (bytesBits (padTo 30 l)))

/-- The default image with bytes 10 and 11, the two thresholds. -/
def thresholds (upper lower : Byte) : List Byte := image [0, 0, 1, 1, 4, 3, 3, 0, 0, 0x77, upper, lower, 30, 10, 5, 10, 3, 0, 7, 31]

/-- Several states with the port ready, in a form that can be checked. -/
theorem all_ready {l : List State} (h : ∀ s ∈ l, s.running = true ∧ s.eqp.port = .idle) : ∀ s ∈ l, s.portReady := h

theorem base_ready : base.portReady := by constructor <;> decide +kernel
theorem showing_ready : showing.portReady := by constructor <;> decide +kernel

theorem showing_list : showing.runListSound := by
  refine ⟨?_, ?_, ?_, ?_⟩ <;> decide +kernel

theorem showing_pointers : showing.pointersSound := by
  refine ⟨by decide +kernel, by decide +kernel, ?_, ?_, ?_⟩ <;> rintro _ ⟨⟩ <;> decide +kernel

theorem holding_list : holding.runListSound := by
  refine ⟨?_, ?_, ?_, ?_⟩ <;> decide +kernel

theorem holding_pointers : holding.pointersSound := by
  refine ⟨by decide +kernel, by decide +kernel, ?_, ?_, ?_⟩ <;> rintro _ ⟨⟩ <;> decide +kernel

/-- What a state and a frame must pass for the frame to be heard as new, in one check. -/
theorem hears_of {s : State} {k : Kind} {f : RxFrame}
    (h : (s.mayReceive && f.wire.heardAs k && s.isActive && s.addressed f.wire &&
      f.wire.sender.toNat != s.pcu.ownNumber) = true) : s.Hears k f := by
  simp only [Bool.and_eq_true, State.isActive, beq_iff_eq, bne_iff_ne] at h
  exact ⟨h.1.1.1.1, h.1.1.1.2, h.1.1.2, h.1.2, h.2⟩

theorem hearsNew_of {s : State} {k : Kind} {f : RxFrame} (h : s.Hears k f)
    (hn : (s.pcu.peer f.wire.sender.toNat).isNone = true) : s.HearsNew k f :=
  ⟨h, fun p hp => by simp [hp] at hn⟩

theorem noHandOff_nil : noHandOff [] := by intro h; simp
theorem noHandOff_recompute : noHandOff [.recompute] := by intro h; simp

/-! ### The well-formedness checks refuse ill-formed operands -/

/-- Each check takes a term of its own and refuses one that breaks it: a fire line, an image, slots that name no
station, a body of another length, a frame heard as another kind or not heard, a SEND's length, a request that is
none. -/
theorem test_wf_lines : (Instr.pulseEnd 7).wf = true ∧ (Instr.pulseEnd 8).wf = false ∧
    (Instr.levelHoldEnd 8).wf = false := by decide +kernel
theorem test_wf_image : (Instr.restartEnd (List.replicate 32 0)).wf = true ∧
    (Instr.restartEnd (List.replicate 33 0)).wf = false := by decide +kernel
theorem test_wf_slots : (Instr.attemptSent 2).wf = true ∧ (Instr.attemptSent 1).wf = false ∧
    (Instr.attemptSent 0x80000000).wf = false := by decide +kernel
theorem test_wf_heard : (Instr.clearFrame (rx .clear 7 toAll [9])).wf = true ∧
    (Instr.holdFrame (rx .clear 7 toAll [9])).wf = false ∧
    (Instr.clearFrame { rx .clear 7 toAll [9] with slots := 1 }).wf = false ∧
    (Instr.clearFrame (rx .clear 0 toAll [9])).wf = false := by decide +kernel
theorem test_wf_wire : wfWire (rx .clear 7 toAll [9]).wire = true ∧ wfWire (rx .clear 7 toAll [9, 9]).wire = false := by
  decide +kernel
theorem test_wf_notHeard : (Instr.frameNotHeard (rx .clear 7 toAll [9])).wf = false ∧
    (Instr.frameNotHeard { rx .clear 7 toAll [9] with wire.check := 0 }).wf = true := by decide +kernel
theorem test_wf_send : (Instr.send 3 0 0xFF 0 [0, 1]).wf = true ∧ (Instr.send 3 0 0xFF 0 [0]).wf = false := by
  decide +kernel
theorem test_wf_badRequest : (Instr.badRequestFrame [0x1D, 0]).wf = true ∧
    (Instr.badRequestFrame [0x04, 2, 0, 1]).wf = false ∧ (Instr.badRequestFrame [0, 1]).wf = false := by decide +kernel

/-! ### Words written out from the manual -/

/-- The transfers of SET TIME to 19:58:20:00 = 1,797,500 = 0x1B6D7C, of a LOAD ITEM and of FETCH EVENTS (R188, R190). -/
theorem test_decode_requests :
    decodeRequest [0x0E, 3, 0x1B, 0x6D, 0x7C] = some (.setTime 1797500) ∧
    decodeRequest [0x01, 11, 0x01, 0x9C, 0x00, 0x05, 0xDC, 0xFF, 0xFF, 0xFF, 0, 0, 0] =
      some (.loadItem 412 1500 0xFFFFFF 0 0) ∧
    decodeRequest [0x17, 1, 8] = some (.fetchEvents 8) ∧ decodeRequest [0x17, 0] = none := by decide +kernel

/-! ### Cases that the manual works out -/

/-- The state after a command. -/
def after (c : Instr) (s : State) : State :=
  match exec c s with
  | .next t => t
  | _ => s

/-- Section 1.5: item 412 on the air since 100,000, at count 100,900. -/
def stretching : State :=
  { base with
    fck := { base.fck with count := 100900 }
    rls := ⟨[{ it 412 .onAir [{ el 1 .start 0 0 with state := .fired }, { el 2 .ending 250 0 with state := .scheduled },
      { el 3 .ending 0 75 with state := .scheduled }, { el 4 .ending 1200 0 with state := .fired }] with
        airStart := some 100000 }]⟩
    tke := { TakeEngine.fresh with onAir := .own 412, lastAired := some 412 }
    fsc := { FireScheduler.fresh with
      queue := [⟨101250, .go, 412, 2⟩, ⟨101425, .prime, 412, 3⟩, ⟨101500, .go, 412, 3⟩] } }

/-- Section 1.5, first stretch: delta −700 = 0xFD44. -/
theorem test_stretch_worked :
    let t := after (.stretchFrame (rx .stretch 7 toAll [9, 0x01, 0x9C, 0xFD, 0x44])) stretching
    t.fsc.queue = [⟨100901, .go, 412, 2⟩, ⟨100901, .prime, 412, 3⟩, ⟨100976, .go, 412, 3⟩] ∧
      (t.findElement 412 3).map (·.late) = some 75 ∧ (t.findItem 412).map (·.lateFrames) = some 75 ∧
      t.eqp.flag .prerollShort = true := by decide +kernel

/-- Section 3.2: SET TIME held, then the pulse of count 1,000,000. -/
theorem test_setTime_worked :
    let t := after (.framePulse quiet) (after (.setTime 1797500) { base with fck := { base.fck with count := 999999 } })
    t.fck.offset = some 797500 ∧ t.offers 0x0E .done [0x00, 0x0F, 0x42, 0x40, 0x1B, 0x6D, 0x7C] := by
  refine ⟨by decide +kernel, ?_, ?_, ?_⟩ <;> decide +kernel

/-- Section 4.4: the first case, at 19:58:20:00. -/
def backTiming : State :=
  { base with
    fck := { base.fck with offset := some (1797500 - 1000) }
    rls := ⟨[{ it 500 .onAir [] with duration := 2250, airStart := some (1000 - 1500) },
      { it 501 .waiting [] with duration := 1000 }, { it 502 .floated [] with duration := 750 },
      { it 503 .waiting [] with duration := 625, hardOut := some 1800000 }, { it 504 .waiting [] with duration := 1250 }]⟩
    tke := { TakeEngine.fresh with onAir := .own 500, lastAired := some 500 } }

theorem test_backTimes_worked :
    let r := backTiming.computeTiming
    r.remaining = 750 ∧ r.toEnd = 3625 ∧ r.segment.map (·.overUnder) = some (-125) ∧
      r.segment.map (·.requiredEnd) = some 1798375 ∧
      r.segment.map (·.backTimes) = some [⟨501, 1798375, false⟩, ⟨503, 1799375, false⟩] := by decide +kernel

/-- Section 4.4: item 502 restored, which crosses the over-alarm threshold. -/
theorem test_restore_worked :
    let t := after (.restoreRequest 502) backTiming
    t.tmc.result.map (·.toEnd) = some 4375 ∧ (t.tmc.result.bind (·.segment)).map (·.overUnder) = some 625 ∧
      t.eqp.flag .overAlarm = true := by decide +kernel

/-- Section 4.4: item 500 held. -/
theorem test_hold_worked :
    let r := (after (.holdFrame (rx .hold 7 toAll [9, 0x01, 0xF4])) backTiming).tmc.result
    (r.bind (·.segment)).map (·.overUnder) = some (-875) ∧ r.bind (·.countdown) = some 0 ∧ r.map (·.stage) = some .out := by
  decide +kernel

/-- Section 5.5: the take of item 300, its elements 1 and 4 PRIMED at 39,901, at the pulse of 40,014; the pass of the
same pulse executes the GO of element 1. -/
def clip : State :=
  withValues { Config.defaults with lineModes := 4 } { base with
    fck := { base.fck with count := 40013 }
    rls := ⟨[{ it 300 .standby [
        { el 1 .start 0 50 with target := .both 2, duration := 900, state := .primed, primeFrame := some 39901 },
        el 2 .start 100 0, el 3 .start 100 0,
        { el 4 .ending 0 25 with target := .event, takeOff := .force, state := .primed, primeFrame := some 39901 }] with
          duration := 1000 }]⟩
    tke := { TakeEngine.fresh with standby := some 300, pendingTake := some { take 300 with air := 40014, arrival := 40010 } } }

theorem test_clip_worked :
    let t := after (.framePulse quiet) clip
    t.fsc.queue = [⟨40114, .go, 300, 2⟩, ⟨40114, .go, 300, 3⟩, ⟨41014, .go, 300, 4⟩] ∧
      t.fsc.line 2 = .held 300 1 40914 ∧ t.tke.onAir = .own 300 ∧ t.tke.standby = none := by decide +kernel

/-- Section 2.10: the late take at station 12, received in the period of its pulse 21,006. -/
theorem test_lateTake_worked :
    let s : State := { base with fck := { base.fck with count := 21006 }, rls := ⟨[it 216 .waiting [el 1 .start 0 50]]⟩ }
    let t := after (.takeFrame (rx .take 3 toAll [9, 0x00, 0xD8, 0, 1, 0, 0, 100])) s
    t.tke.pendingTake.map (fun p => (p.air, p.late, p.arrival)) = some (21007, true, 21006) ∧
      (after (.framePulse quiet) t).fsc.queue = [⟨21057, .go, 216, 1⟩] ∧
      ((after (.framePulse quiet) t).findItem 216).map (·.lateFrames) = some 50 := by decide +kernel

/-- Section 3.3: 39.8 ms after an internal pulse a returning pulse is counted, 0.3 ms after it is absorbed. -/
theorem test_refBack_worked :
    let s : State := { base with fck := { base.fck with count := 5025, status := .freeRun, internalPulses := 25 } }
    (after (.refBack 300 quiet) s).fck.count = 5025 ∧ (after (.refBack 39800 quiet) s).fck.count = 5026 := by decide +kernel

/-- Section 9.4: the six entries of the air queue. -/
def merging : State :=
  let e (p : Payload) (n : Byte) : QueueEntry := { entry p with sequence := some n }
  { base with obq := { OutboundQueues.fresh with
      sequence := 65
      air := [{ e (.take 520 0 0) 60 with flight := some ⟨0, 0, 0⟩ }, e (.standby 521) 61, e (.stretch 500 100) 62,
        e (.cue 500 1) 63, e (.hold 500) 64, { entry (.sweep 521) with sequence := none }] } }

theorem test_stretchMerge_worked :
    let t := after (.send 5 0 0xFF 0 [0x01, 0xF4, 0, 50]) merging
    t.obq.air.map (·.payload) = [.take 520 0 0, .standby 521, .stretch 500 150, .cue 500 1, .hold 500, .sweep 521] ∧
      t.obq.sequence = 65 ∧ t.offers 0x0A .done [1, 62] := by
  refine ⟨by decide +kernel, by decide +kernel, ?_, ?_, ?_⟩ <;> decide +kernel

theorem test_purge_worked :
    let t := after (.send 1 0 0xFF 0 []) merging
    t.obq.air.map (fun e => (e.payload, e.sequence)) =
        [(.take 520 0 0, some 60), (.clear, some 65), (.stretch 500 100, some 62), (.sweep 521, none)] ∧
      t.obq.sequence = 66 ∧ t.eqp.fifo.map (·.event) =
        [.sendResult .standby 61 toAll 0 0 0 .purged, .sendResult .cue 63 toAll 0 0 0 .purged,
          .sendResult .hold 64 toAll 0 0 0 .purged] := by decide +kernel

/-- Section 11.4: an image with preferred number 40, lead 20, absent limit 0 and thresholds 6 and 9. -/
theorem test_image_worked :
    let t := after (.restartEnd (image [40, 0, 1, 1, 20, 3, 0, 0, 0, 0x77, 6, 9, 30, 10, 5, 10, 3, 0, 7, 31])) State.reset
    t.sul.record.outcome = .clamped ∧ t.sul.record.clamped = 0xC51 ∧ t.values.preferred = 30 ∧ t.values.takeLead = 15 ∧
      t.values.absentLimit = 1 ∧ t.values.upper = 14 ∧ t.values.lower = 8 ∧ t.pcu.candidate = some 30 := by decide +kernel

/-- Section 6.3: the bits of station 3's TAKE up to its sender: start, urgency 000, sender 00011 (false is dominant). -/
theorem test_contention_bits :
    (Wire.make .take 3 toAll [0, 0, 1, 4, 0, 0, 0, 0]).bits.take 9 =
      [false, false, false, false, false, false, false, true, true] := by decide +kernel

/-- Section 10.5: the round of attention, its third and sixth rows. -/
theorem test_attentionRound_worked :
    let s : State := { base with eqp := { base.eqp with
      enables := 0b11010, flags := 0x4084, groups := 0b01011, atn := true, fifo := [⟨1, .release 1 1⟩] } }
    (after .fetchSummary s).eqp.groups = 0 ∧ (after .fetchSummary s).eqp.atn = false ∧
      (after (.ackFlags 0x4084) s).eqp.flags = 0x80 ∧
      (after (.ackFlags 0x4084) { s with eqp := { s.eqp with groups := 0, atn := false } }).eqp.atn = true := by
  decide +kernel

/-- READ ITEM (R23, R188, R190), byte by byte: item 412, first of one, planned 1,500 = 0x5DC, WAITING, no hard out, ITEM, never
on the air, not held, not passed, with one element: 2, END, offset 250, pre-roll 75, ready, BOTH 2, duration 900, FORCE,
PRIMED at 39,901 = 0x9BDD. -/
theorem test_readItem_bytes :
    let e : Element := { el 2 .ending 250 75 with ready := true, target := .both 2, duration := 900, takeOff := .force,
                                                  state := .primed, primeFrame := some 39901 }
    let s : State := { base with rls := ⟨[it 412 .waiting [e]]⟩ }
    (after (.readItem 0 412) s).eqp.response = some (
      [0x10, 0, 0, 51] ++ [1, 1, 0x01, 0x9C, 0x00, 0x05, 0xDC, 0] ++ [0, 0, 0, 0] ++ [0] ++ [0, 0, 0, 0, 0] ++
      [0, 0, 0, 0, 0] ++ [0, 0, 0, 0] ++ [1] ++
      [2, 1, 0x00, 0xFA, 75, 0, 1, 18, 0x03, 0x84, 1, 1] ++ [1, 0x00, 0x00, 0x9B, 0xDD] ++ [0, 0, 0, 0, 0] ++ [0]) := by
  decide +kernel

/-- READ TIMING (R58, R76, R100, R167, R170) of a station with nothing on the air at count 1,000 = 0x3E8: the clock, no timing
result and no page, an empty fire queue and eight quiet lines, empty queues, no take. -/
theorem test_readTiming_bytes :
    (after (.readTiming 1) base).eqp.response = some (
      [0x11, 0, 0, 217] ++ [0x00, 0x00, 0x03, 0xE8] ++ [0, 0, 0, 0] ++ [0, 0, 0, 0] ++ [0, 0, 0, 0] ++
      List.replicate 44 0 ++ [0] ++ [0, 0, 0, 0] ++ [0, 0, 0, 0, 0] ++ [0] ++
      [0, 32] ++ List.replicate 6 0 ++ [0] ++ List.replicate (8 * 11) 0 ++
      [0, 0, 0, 0, 0] ++ List.replicate 5 0 ++
      [0, 0, 0] ++ List.replicate 4 0 ++ List.replicate 5 0 ++ [0, 0] ++ List.replicate 17 0 ++ [0, 0] ++ [0] ++
      [0, 0, 0, 0, 0]) := by
  decide +kernel

/-- Two event records (R191): PEER_CHANGE of station 7 from PRESENT to ABSENT, MISSED, of known roles 4 and no identity; and
REF_LOST of the counts 5,000 and 5,001, each padded to 20 bytes. -/
theorem test_event_bytes :
    (EventRecord.mk 1000 (.peerChange 7 .present .absent .missed (some 4) none)).bytes =
        [14, 0x00, 0x00, 0x03, 0xE8, 7, 1, 2, 3, 1, 4] ++ List.replicate 9 0 ∧
      (EventRecord.mk 5001 (.refLost 5000 5001)).bytes =
        [17, 0x00, 0x00, 0x13, 0x89, 0x00, 0x00, 0x13, 0x88, 0x00, 0x00, 0x13, 0x89] ++ List.replicate 7 0 := by
  decide +kernel

/-! ### A state and operands for the hypotheses of each statement, clause by clause -/

/-- The parts of a pulse that are left. -/
def within (l : List PulsePart) (s : State) : State := { s with pulseRest := l }

theorem witness_StepTakesTheFront :
    { base with pending := [Instr.readPeers] }.pending = Instr.readPeers :: [] ∧
      (base.pending = [] ∧ base.pulseRest = []) ∧ (State.reset.pending = [] ∧ State.reset.running = false) ∧
      (within [.take, .recompute] base).pending = [] ∧ (within [.take, .recompute] base).running = true ∧
      (within [.take, .recompute] base).pulseRest = .take :: [.recompute] := by decide +kernel

theorem witness_EveryCommandKeeps :
    (∀ b, Instr.readPeers ≠ .powerOn b) ∧ ∀ image, Instr.readPeers ≠ .restartEnd image := by simp

theorem witness_RestartingIsInert :
    State.reset.running = false ∧ (∀ b, Instr.readPeers ≠ .powerOn b) ∧ Instr.readPeers ≠ .resetActive ∧
      (∀ image, Instr.readPeers ≠ .restartEnd image) ∧ ∀ n, Instr.readPeers ≠ .portRead n := by
  refine ⟨by decide +kernel, ?_⟩
  simp

theorem witness_RestartsBegin : base.portReady ∧ (2 : Byte) ≠ 0 ∧ (2 : Byte) ≠ 1 := ⟨base_ready, by decide, by decide⟩

theorem witness_RestartRunList :
    (showing.sul.phase ≠ .restarting .cold ∧ showing.tke.onAir = .own 1 ∧ showing.portReady) ∧
      base.portReady ∧ ∀ id, base.tke.onAir ≠ .own id := by
  refine ⟨⟨by decide +kernel, by decide +kernel, showing_ready⟩, base_ready, fun id h => by cases h⟩

/-- A restart under way, warm, with the previous number 12. -/
def warming : State :=
  { State.reset with sul := { State.reset.sul with phase := .restarting .warm }, pcu := PeerCensus.fresh 0 12 }

theorem witness_RestartEnds :
    (State.reset.sul.phase = .restarting .cold ∧ State.reset.obq = OutboundQueues.fresh) ∧
      (warming.sul.phase = .restarting .warm ∧ warming.obq = OutboundQueues.fresh ∧ warming.pcu.previous = 12) ∧
      (readImage (thresholds 14 8)).outcome = .ok ∧ (readImage (List.replicate 32 0)).outcome = .bad ∧
      base.running = true := by decide +kernel

theorem witness_ImageOutcomes :
    State.reset.sul.phase = .restarting .cold ∧ (List.replicate 31 (0 : Byte)).length < 32 ∧
      ((List.replicate 32 (0 : Byte)).length = 32 ∧ List.replicate 32 (0 : Byte) ≠ List.replicate 32 0xFF ∧
        crc (bytesBits ((List.replicate 32 (0 : Byte)).take 30)) ≠ field16 (List.replicate 32 (0 : Byte)) 30) ∧
      (∀ b ∈ [image [30], image [31]], b.length = 32 ∧ b ≠ List.replicate 32 0xFF ∧
        crc (bytesBits (b.take 30)) = field16 b 30) ∧
      imageByte (image [30]) 0 = 30 ∧ imageByte (image [31]) 0 = 31 := by decide +kernel

theorem witness_ThresholdsTogether :
    (∀ b ∈ [thresholds 8 8, thresholds 9 8, thresholds 17 16], b.length = 32 ∧ b ≠ List.replicate 32 0xFF ∧
        crc (bytesBits (b.take 30)) = field16 b 30) ∧
      max 1 (min 16 (imageByte (thresholds 8 8) 10)) ≤ min 15 (imageByte (thresholds 8 8) 11) ∧
      min 15 (imageByte (thresholds 9 8) 11) < max 1 (min 16 (imageByte (thresholds 9 8) 10)) ∧
      min 15 (imageByte (thresholds 17 16) 11) < max 1 (min 16 (imageByte (thresholds 17 16) 10)) ∧
      base.values.guardRoles = 0 ∧ (withValues { Config.defaults with guard := true } base).values.guard = true ∧
      base.values.roles = 0 ∧
      ({ base with pcu := { base.pcu with peers := base.pcu.peers.set 6 (some { clipPeer with roles := some 0 }) } }).pcu.peer 7 =
        some { clipPeer with roles := some 0 } := by decide +kernel

/-- `base` in FREE_RUN. -/
def freeRunning : State := { base with fck := { base.fck with status := .freeRun, internalPulses := 1 } }

theorem witness_PulsesCount :
    (base.running = true ∧ base.fck.status = .external) ∧ (freeRunning.running = true ∧ freeRunning.fck.status = .freeRun) ∧
      19999 * 2 * freeRunning.rate < 1000000 ∧ 1000000 ≤ 20000 * 2 * freeRunning.rate := by decide +kernel

theorem witness_TimeSetting :
    let held (r : RefStatus) : State :=
      { base with fck := { base.fck with status := r, pendingTime := some 2159999 }
                  eqp := { base.eqp with port := .working, inProgress := some 0x0E } }
    let s : State := within [.timeApplied, .recompute] { held .external with
      fck := { base.fck with offset := some 2158999 } }
    let u : State := { base with fck := { base.fck with count := 0xFFFFFFFF, offset := some 2159999 } }
    base.portReady ∧ (2159999 : BitVec 24).toNat < base.day ∧ base.day ≤ (2160000 : BitVec 24).toNat ∧
      (∀ r ∈ [RefStatus.external, .freeRun], (held r).running = true ∧ (held r).fck.pendingTime = some 2159999 ∧
        2159999 < (held r).day ∧ (held r).fck.status = r ∧ (held r).fck.offset = none ∧
        (held r).eqp.inProgress = some 0x0E) ∧ (quiet.divided = false ∧ { quiet with divided := true }.divided = true) ∧
      (s.running = true ∧ s.pulseRest = .timeApplied :: [.recompute] ∧ s.eqp.inProgress = some 0x0E ∧
        s.fck.pendingTime = none ∧ s.tod = some 2159999) ∧
      u.running = true ∧ u.fck.status = .external ∧ u.fck.offset = some 2159999 ∧ u.fck.pendingTime = none := by
  refine ⟨base_ready, ?_⟩
  decide +kernel

theorem witness_OperatorInputs :
    let p : Pulse := { quiet with take := true }
    let q : Pulse := { quiet with force := true, take := true }
    let r : Pulse := { quiet with localSw := true }
    let armed (s : State) : State := { s with fck := { s.fck with
      takeInput := ⟨some true, .inactive⟩, forceInput := ⟨some true, .inactive⟩ } }
    let taking : State := { showing with fck := { showing.fck with takeInput := ⟨some true, .inactive⟩ } }
    let guarding := withValues { Config.defaults with guard := true } taking
    let waiting : State := { taking with tke := { taking.tke with guarded := some ⟨3, false, .takeNext, ⟨toAll, 4, none⟩, false⟩ } }
    let full : State := { taking with obq := { taking.obq with air := List.replicate 8 (entry .clear) } }
    let away : State := { taking with pcu := { taking.pcu with mode := .listenOnly, ownNumber := 0 } }
    let localTaking : State := { taking with tke := { taking.tke with control := .localLocked } }
    let empty : State := { base with fck := { base.fck with takeInput := ⟨some true, .inactive⟩ } }
    let rising : State := { base with fck := { base.fck with localInput := ⟨some true, .inactive⟩ } }
    let locked : State := { rising with tke := { rising.tke with control := .remoteLocked } }
    let falling : State := { base with
      fck := { base.fck with localInput := ⟨some false, .active⟩ }, tke := { base.tke with control := .localLocked } }
    (∀ x ∈ [taking, guarding, waiting, full, away, localTaking, empty, armed showing, rising, locked, falling],
      x.running = true ∧ x.fck.status = .external ∧ x.pulseRest = [] ∧ x.tke.pendingTake = none ∧
        x.values.inputEnables = 7 ∧ x.values.takeLead ≤ 15) ∧
      (p.divided = false ∧ p.force = false ∧ p.take = true ∧ p.localSw = false) ∧
      (q.divided = false ∧ q.force = true ∧ q.localSw = false ∧ (armed showing).fck.forceInput = ⟨some true, .inactive⟩) ∧
      (∀ x ∈ [taking, guarding, waiting, full, away, localTaking, empty], x.fck.takeInput = ⟨some true, .inactive⟩ ∧
        x.fck.forceInput.level = .inactive ∧ x.fck.localInput.level = .inactive) ∧
      (∀ x ∈ [taking, guarding, waiting, full, empty, armed showing], x.pcu.mode = .active ∧ x.suppresses = false) ∧
      (away.pcu.mode ≠ .active ∧ localTaking.suppresses = true ∧ waiting.tke.guarded ≠ none) ∧
      (∀ x ∈ [taking, guarding, full, armed showing], x.tke.guarded = none ∧ x.nextItem = some 2) ∧
      (empty.tke.guarded = none ∧ empty.nextItem = none ∧ taking.values.guard = false ∧ guarding.values.guard = true) ∧
      (8 ≤ full.obq.air.length ∧ taking.obq.air = [] ∧ guarding.obq.air = []) ∧
      (rising.fck.localInput = ⟨some r.localSw, levelOf !r.localSw⟩ ∧ falling.fck.localInput = ⟨some p.localSw, levelOf !p.localSw⟩ ∧
        locked.tke.control = .remoteLocked) := by decide +kernel

theorem witness_DividingAPulseChangesNothing :
    base.running = true ∧
      (base.fck.status = .external ↔ (Instr.framePulse quiet = .framePulse { quiet with divided := false } ∨
        Instr.framePulse quiet = .refLost { quiet with divided := false })) ∧
      freeRunning.running = true ∧ freeRunning.absorbs 20000 = false ∧
      (freeRunning.fck.status = .external ↔ (Instr.refBack 20000 quiet = .framePulse { quiet with divided := false } ∨
        Instr.refBack 20000 quiet = .refLost { quiet with divided := false })) := by decide +kernel

/-- `showing` at the take part of a pulse, with a take for now. -/
def taking (p : PendingTake) : State :=
  within [.take, .pass, .recompute] { showing with tke := { showing.tke with pendingTake := some p } }

theorem taking_list (p : PendingTake) : (taking p).runListSound := showing_list

theorem noHandOff_pass : noHandOff [.pass, .recompute] := by intro h; simp

theorem witness_TakePutsOwnItemOnAir :
    let s := taking { take 3 with late := true }
    let x : Element := { el 1 .start 0 0 with state := .scheduled, takeOff := .force, target := .both 7 }
    let y : Element := { el 2 .start 0 0 with state := .suppressed, takeOff := .force }
    let u : State := within [.take, .recompute] { base with
      rls := ⟨[{ it 1 .onAir [x, y] with airStart := some 900 }, it 3 .waiting []]⟩
      fsc := { FireScheduler.fresh with queue := [⟨1005, .go, 1, 2⟩] }
      tke := { TakeEngine.fresh with onAir := .own 1, pendingTake := some (take 3) } }
    (∀ v ∈ [s, u], v.running = true ∧ v.tke.onAir = .own 1 ∧ (v.findItem 1).bind (·.airStart) = some 900 ∧
        (v.findItem 3).isSome = true ∧ (take 3).air = v.now ∧ v.fsc.lines.length = 8) ∧
      (s.runListSound ∧ u.runListSound) ∧ (noHandOff [.pass, .recompute] ∧ noHandOff [.recompute]) ∧
      (u.forcedTo 1 x 7 ∧ u.hasNotFired 1 y ∧ ¬u.forcedTo 1 y 7) ∧
      s.pulseRest = .take :: [.pass, .recompute] ∧ u.pulseRest = .take :: [.recompute] ∧
      s.tke.pendingTake = some { take 3 with late := true } ∧ u.tke.pendingTake = some (take 3) ∧
      0 ≤ Count.diff 900 (take 3).air := by
  refine ⟨by decide +kernel, ⟨taking_list _, ?_, ?_, ?_, ?_⟩, ⟨noHandOff_pass, noHandOff_recompute⟩,
    ⟨⟨.inl rfl, rfl, ?_, .inr rfl⟩, .inr (.inr (.inr ⟨rfl, ⟨1005, .go, 1, 2⟩, ?_⟩)),
      fun h => by rcases h.2.2.2 with h | h <;> cases h⟩, ?_⟩ <;> decide +kernel

theorem witness_TakePutsForeignItemOnAir :
    let s := taking (take 9)
    s.running = true ∧ s.runListSound ∧ s.pulseRest = .take :: [.pass, .recompute] ∧ noHandOff [.pass, .recompute] ∧
      s.tke.pendingTake = some (take 9) ∧ (take 9).air = s.now ∧ s.findItem 9 = none ∧ s.tke.onAir = .own 1 := by
  refine ⟨by decide +kernel, taking_list _, by decide +kernel, noHandOff_pass, ?_⟩
  decide +kernel

theorem witness_TakeSchedulesElements :
    let s := taking (take 3)
    let u := taking (take 2)
    let full : State := { s with
      tke := { s.tke with onAir := .none }
      fsc := { s.fsc with queue := (List.range 32).map fun n => ⟨BitVec.ofNat 32 (1001 + n), .go, 7, 1⟩ } }
    (∀ v ∈ [s, u, full], v.running = true ∧ v.pulseRest = .take :: [.pass, .recompute] ∧ 1000 = v.now) ∧
      (s.runListSound ∧ u.runListSound ∧ full.runListSound) ∧ noHandOff [.pass, .recompute] ∧
      (s.tke.pendingTake = some (take 3) ∧ s.findItem 3 = some (it 3 .waiting [el 1 .start 0 5]) ∧
        (el 1 .start 0 5).state ≠ .primed ∧ s.fsc.queue.length + 2 * 1 ≤ 32) ∧
      (u.tke.pendingTake = some (take 2) ∧
        u.findItem 2 = some (it 2 .standby [{ el 1 .start 0 5 with state := .primed, primeFrame := some 990 }]) ∧
        ∀ g ∈ u.fsc.queue, ¬(g.item = 2 ∧ g.element = 1)) ∧
      full.tke.pendingTake = some (take 3) ∧ 32 ≤ full.fsc.queue.length ∧
      ∀ g ∈ full.fsc.queue, g.item ≠ 3 ∧ full.tke.onAir ≠ .own g.item := by
  refine ⟨by decide +kernel, ⟨taking_list (take 3), taking_list (take 2), taking_list (take 3)⟩, noHandOff_pass, ?_⟩
  decide +kernel

/-- Item 1 on the air with one element, its entry `a` at the head of the queue and due now, at the pass. -/
def firing (a : Action) (x : Element) : State :=
  within [.pass, .recompute] { base with
    rls := ⟨[{ it 1 .onAir [x] with airStart := some 900 }]⟩
    tke := { TakeEngine.fresh with onAir := .own 1, lastAired := some 1 }
    fsc := { FireScheduler.fresh with queue := [⟨1000, a, 1, x.id⟩, ⟨1005, .go, 1, 2⟩] } }

/-- The same under local control. -/
def locally (s : State) : State := { s with tke := { s.tke with control := .localControl } }

theorem witness_PrimeFires :
    (∀ s ∈ [firing .prime (el 1 .start 0 5), locally (firing .prime (el 1 .start 0 5))],
      s.running = true ∧ s.pulseRest = .pass :: [.recompute] ∧
        s.fsc.queue = ⟨1000, .prime, 1, 1⟩ :: [⟨1005, .go, 1, 2⟩] ∧ Count.atOrBefore 1000 s.now = true ∧
        s.findElement 1 1 = some (el 1 .start 0 5)) ∧ noHandOff [.recompute] ∧
      (firing .prime (el 1 .start 0 5)).suppresses = false ∧
      (locally (firing .prime (el 1 .start 0 5))).suppresses = true := by
  refine ⟨by decide +kernel, noHandOff_recompute, by decide +kernel, by decide +kernel⟩

theorem witness_GoFires :
    let x : Element := { el 1 .start 0 0 with target := .both 7 }
    let v : Element := { el 1 .start 0 0 with target := .event }
    let s := firing .go x
    let level := withValues { Config.defaults with lineModes := 0x80 } s
    let merged : State := { s with fsc := { s.fsc with lines := s.fsc.lines.set 7 (.pulsing 3 2 1000) } }
    let earlier : State := { s with fsc := { s.fsc with lines := s.fsc.lines.set 7 (.pulsing 3 2 999) } }
    noHandOff [.recompute] ∧
      (∀ u ∈ [s, locally s, level, merged, earlier, firing .go v], u.running = true ∧
        u.pulseRest = .pass :: [.recompute] ∧ u.fsc.queue = ⟨1000, .go, 1, 1⟩ :: [⟨1005, .go, 1, 2⟩] ∧
        Count.atOrBefore 1000 u.now = true ∧ u.fsc.lines.length = 8) ∧
      (∀ u ∈ [s, locally s, level, merged, earlier], u.findElement 1 1 = some x) ∧ (firing .go v).findElement 1 1 = some v ∧
      (locally s).suppresses = true ∧ s.suppresses = false ∧ level.isLevel 7 = true ∧ s.isLevel 7 = false ∧
      merged.fsc.line 7 = .pulsing 3 2 merged.now ∧ earlier.fsc.line 7 = .pulsing 3 2 999 := by
  refine ⟨noHandOff_recompute, ?_⟩
  decide +kernel

theorem witness_FireLinesEnd :
    let p := within [.pulseEnds, .recompute] { base with fsc := { FireScheduler.fresh with
      lines := FireScheduler.fresh.lines.set 7 (.pulsing 1 1 999) } }
    let h := within [.holdEnds, .recompute] { base with fsc := { FireScheduler.fresh with
      lines := FireScheduler.fresh.lines.set 7 (.held 1 1 1000) } }
    noHandOff [.recompute] ∧ (∀ s ∈ [p, h], s.running = true ∧ s.fsc.lines.length = 8) ∧
      p.pulseRest = .pulseEnds :: [.recompute] ∧ p.fsc.line 7 = .pulsing 1 1 999 ∧ 999 ≠ p.now ∧
      h.pulseRest = .holdEnds :: [.recompute] ∧ h.fsc.line 7 = .held 1 1 h.now := by
  refine ⟨noHandOff_recompute, ?_⟩
  decide +kernel

/-- The counted items of `backTiming`: its second, fourth and fifth. -/
def backCounted : List Item := backTiming.rls.items.drop 1 |>.filter fun i => i.state == .waiting || i.state == .standby

theorem backTiming_counts : backTiming.counts backCounted :=
  .inr ⟨[], _, _, rfl, (fun _ h => nomatch h), .inl rfl, rfl⟩

theorem backTiming_closes : backTiming.closesAt backCounted (backCounted.take 2) 503 1800000 := by
  refine .inr ⟨fun x h hx => ?_, backCounted.take 1, { it 503 .waiting [] with duration := 625, hardOut := some 1800000 },
    backCounted.drop 2, ?_, ?_, rfl, rfl, ?_⟩
  · have e : (500 : ItemId) = x.id := by injection h
    have hn : (backTiming.findItem 500).map (·.hardOut) = some none := by decide +kernel
    rw [← e] at hx
    rw [hx] at hn
    exact Option.some.inj hn
  all_goals decide +kernel

/-- `backTiming` with its on-air item on the basis SEGMENT, and with a hard out of its own. -/
def segmented : State :=
  { backTiming with rls := ⟨{ it 500 .onAir [] with airStart := some (1000 - 1500), basis := .segment } :: backTiming.rls.items.drop 1⟩ }

def closing : State :=
  { backTiming with rls := ⟨[{ it 500 .onAir [] with airStart := some 900, hardOut := some 5 }]⟩ }

theorem closing_closes : closing.counts [] ∧ closing.closesAt [] [] 500 5 :=
  ⟨.inr ⟨[], _, _, rfl, (fun _ h => nomatch h), .inl rfl, rfl⟩,
    .inl ⟨{ it 500 .onAir [] with airStart := some 900, hardOut := some 5 }, rfl, by decide +kernel, rfl, rfl, rfl⟩⟩

theorem witness_TimingValues :
    let foreign (d : Nat) (S : Count) : State := { base with tke := { base.tke with onAir := .foreign 9 d S } }
    let last := within [.recompute] backTiming
    (base.counts [] ∧ base.tke.onAir = .none ∧ base.fck.offset = none ∧ backTiming.counts backCounted ∧
        backTiming.closesAt backCounted (backCounted.take 2) 503 1800000 ∧ closing.counts [] ∧
        closing.closesAt [] [] 500 5) ∧
      ((foreign 0 900).counts [] ∧ (foreign 0 900).tke.onAir = .foreign 9 0 900 ∧ (foreign 262143 1001).counts [] ∧
        Count.diff 1001 (foreign 262143 1001).now < 0) ∧
      (backTiming.fck.offset = some 1796500 ∧ backTiming.tke.onAir = .own 500 ∧
        (backTiming.findItem 500).bind (·.airStart) = some (1000 - 1500)) ∧
      (segmented.counts backCounted ∧ (segmented.findItem 500).map (fun i => (i.held, i.basis)) = some (false, .segment) ∧
        segmented.computeTiming.segment.isSome = true) ∧
      last.running = true ∧ last.pending = [] ∧ last.pulseRest = [.recompute] := by
  refine ⟨⟨.inl ⟨nofun, rfl, rfl⟩, rfl, rfl, backTiming_counts, backTiming_closes, closing_closes⟩,
    ⟨.inl ⟨nofun, rfl, rfl⟩, rfl, .inl ⟨nofun, rfl, rfl⟩, ?_⟩, ?_,
    ⟨.inr ⟨[], _, _, rfl, (fun _ h => nomatch h), .inl rfl, rfl⟩, ?_⟩, ?_⟩ <;> decide +kernel

theorem witness_Polls :
    let f := rx .poll 7 (toNumber 5) []
    let g := rx .status 7 (toNumber 5) [3, 0, 0, 0, 0, 0, 0, 32, 0x80, 0, 0, 0]
    let s : State := { base with pcu := { base.pcu with poll := .awaiting 7 1003 } }
    let u : State := within [.pollTimeout, .recompute] { base with pcu := { base.pcu with poll := .awaiting 7 1000 } }
    (base.Hears .poll f ∧ f.wire.byNumber = true ∧ base.obq.routine.length < 16) ∧
      (peered.Hears .poll f ∧ peered.pcu.presence 7 = .present) ∧
      (s.Hears .status g ∧ s.pcu.poll = .awaiting g.wire.sender.toNat 1003 ∧
        (Control.ofCode (byteAt g.wire.body 0)).isSome = true ∧ field16 g.wire.body 1 ≠ 0xFFFF ∧
        field16 g.wire.body 3 ≠ 0xFFFF ∧ field16 g.wire.body 5 ≠ 0xFFFF ∧ (byteAt g.wire.body 7).toNat ≤ 32) ∧
      noHandOff [.recompute] ∧ u.running = true ∧ u.pulseRest = .pollTimeout :: [.recompute] ∧
      u.pcu.poll = .awaiting 7 u.now := by
  refine ⟨⟨hears_of ?_, ?_⟩, ⟨hears_of ?_, ?_⟩, ⟨hears_of ?_, ?_⟩, noHandOff_recompute, ?_⟩ <;> decide +kernel

/-! #### The line -/

/-- `base` in another line phase. -/
def phased (p : LinePhase) (run : Nat) : State := { base with lne := { base.lne with phase := p, dominantRun := run } }

theorem witness_GapBitTimes :
    (∀ s ∈ [phased (.gap 0) 63, phased (.frame (some 7)) 0], s.running = true ∧ s.lne.dominantRun < 64) ∧
      (phased (.gap 0) 63).betweenFrames ∧ (phased (.frame (some 7)) 0).betweenFrames ∧
      (phased (.gap 0) 63).noStartBit [true, false] ∧
      (base.running = true ∧ base.lne.phase = .idle ∧ true ∈ [false, true] ∧ true ∉ [false]) ∧
      (phased (.frame (some 7)) 0).lne.phase = .frame (some 7) ∧ ∀ k, base.lne.phase ≠ .frame (some k) := by
  refine ⟨by decide +kernel, .inl ⟨0, rfl⟩, .inr ⟨7, rfl⟩, fun l r h => ?_, by decide +kernel, rfl, nofun⟩
  match l with
  | [] => decide +kernel
  | [_] => simp at h
  | _ :: _ :: _ => simp at h

/-- `base` with the two outbound queues. -/
def queued (air routine : List QueueEntry) : State := { base with obq := { base.obq with air := air, routine := routine } }

/-- A station that claims 30, its CLAIM at the head of the routine queue. -/
def claiming (f : Option Flight) : State :=
  { base with
    pcu := { PeerCensus.fresh 0 0 with candidate := some 30 }
    obq := { base.obq with routine := [{ newEntry (.claim 30 0 0) (toNumber 30) .peerCensus 0 with flight := f }] } }

theorem witness_SendOpportunity :
    let air := queued [entry (.hold 1)] [entry .lockout]
    let ring : State := { air with obq := { air.obq with ringPointer := 3 } }
    let again := queued [flying (.hold 1) ⟨1, 0, 0⟩] []
    let later := queued [entry (.hold 1)] [flying .lockout ⟨1, 0, 0⟩]
    let c := claiming none
    (base.maySend = true ∧ base.obq.air = [] ∧ base.obq.routine = [] ∧ base.pcu.mode = .active) ∧
      State.reset.maySend = false ∧
      (c.maySend = true ∧ c.pcu.mode = .claiming ∧ c.obq.routine = [] ++ newEntry (.claim 30 0 0) (toNumber 30) .peerCensus 0 :: [] ∧
        (newEntry (.claim 30 0 0) (toNumber 30) .peerCensus 0).isClaim = true) ∧
      (again.maySend = true ∧ again.pcu.mode = .active ∧ again.obq.air = flying (.hold 1) ⟨1, 0, 0⟩ :: [] ∧
        (flying (.hold 1) ⟨1, 0, 0⟩).inFlight = true ∧ (flying (.hold 1) ⟨1, 0, 0⟩).isClaim = false) ∧
      (later.maySend = true ∧ (∀ x ∈ later.obq.air, x.inFlight = false) ∧ later.obq.routine = flying .lockout ⟨1, 0, 0⟩ :: []) ∧
      (∀ s ∈ [air, ring], s.maySend = true ∧ s.pcu.mode = .active ∧ (∀ e ∈ s.obq.air, e.inFlight = false) ∧
        (∀ e ∈ s.obq.routine, e.inFlight = false) ∧ s.obq.air = entry (.hold 1) :: [] ∧ s.obq.routine = entry .lockout :: []) ∧
      (air.values.ring.getLsbD air.obq.ringPointer = true ∧ ring.values.ring.getLsbD ring.obq.ringPointer = false) ∧
      peered.pcu.peer peered.pcu.ownNumber = none ∧ peered.pcu.peer 7 = some clipPeer ∧ clipPeer.presence = .present ∧
      (toNumber 30).byNumber = true ∧ toAll.byNumber = false ∧ toAll.value = 0xFF ∧ toDirectors.byNumber = false ∧
      toDirectors.value ≠ 0xFF := by decide +kernel

/-- A station driving an attempt of the entry at the head of one of its queues. -/
def driving (q : QueueName) (e : QueueEntry) (l : List QueueEntry) : State :=
  { peered with
    obq := match q with
      | .air => { peered.obq with air := e :: l }
      | .routine => { peered.obq with routine := e :: l }
    lne := { peered.lne with
      phase := .frame none, part := .contending, tx := some (Wire.make e.payload.kind 5 e.address (e.payload.bytes 40 0 false)) } }

theorem drives_of {q : QueueName} {e : QueueEntry} {f : Flight} {l : List QueueEntry} (hf : e.flight = some f)
    (hc : (!(driving q e l).sendsClaim && !e.isClaim) = true) : (driving q e l).Drives q e f l := by
  simp only [Bool.and_eq_true, Bool.not_eq_true'] at hc
  cases q with
  | air => exact ⟨rfl, rfl, hc.1, rfl, nofun, hc.2, hf⟩
  | routine => exact ⟨rfl, rfl, hc.1, rfl, fun _ _ hx => (nomatch hx), hc.2, hf⟩

/-- A CLAIM for 30 of the identity whose bits are all 1. -/
def claimWire : Wire := Wire.make .claim 30 (toNumber 30) (List.replicate 6 0xFF ++ [0x80])

/-- The station of `claiming`, its CLAIM being sent, after `f` counted attempts. -/
def claimSending (n : Nat) : State :=
  { claiming (some ⟨n, 0, 0⟩) with
    lne := { base.lne with
      phase := .frame none, part := .contending, tx := some claimWire } }

/-- Its CLAIM. -/
def claimFlying (n : Nat) : QueueEntry :=
  { newEntry (.claim 30 0 0) (toNumber 30) .peerCensus 0 with flight := some ⟨n, 0, 0⟩ }

theorem claimSending_claims (n : Nat) : (claimSending n).Claims 30 [] (claimFlying n) [] ⟨n, 0, 0⟩ :=
  ⟨rfl, rfl, rfl, rfl, rfl, rfl, nofun, ⟨0, 0, rfl⟩, rfl⟩

theorem witness_OwnTakeOnTheLine :
    let s := queued [entry (.take 3 100 1255)] []
    let u := queued [entry (.take 3 100 999)] []
    let e : QueueEntry := { flying (.take 3 100 1002) ⟨0, 0, 0⟩ with superseded := true }
    let d : State := { driving .air e [] with tke := { base.tke with pendingTake := some (take 4) } }
    (∀ x ∈ [s, u], x.maySend = true ∧ x.pcu.mode = .active ∧ (∀ y ∈ x.obq.air ++ x.obq.routine, y.inFlight = false) ∧
        x.values.ring.getLsbD x.obq.ringPointer = true) ∧
      s.obq.air = entry (.take 3 100 1255) :: [] ∧ Count.diff s.now 1255 = 255 ∧
      u.obq.air = entry (.take 3 100 999) :: [] ∧ Count.diff u.now 999 = -1 ∧
      d.Drives .air e ⟨0, 0, 0⟩ [] ∧ e.payload = .take 3 100 1002 ∧ e.superseded = true ∧ e.sentOnce = false ∧
      d.tke.pendingTake = some (take 4) ∧ (take 4).item ≠ 3 := by
  have h : (driving .air { flying (.take 3 100 1002) ⟨0, 0, 0⟩ with superseded := true } []).Drives .air _ ⟨0, 0, 0⟩ [] :=
    drives_of rfl (by decide +kernel)
  refine ⟨?_, ?_, ?_, ?_, ?_, ⟨h.1, h.2, h.3, h.4, h.5, h.6, h.7⟩, ?_⟩ <;> decide +kernel

theorem witness_ContentionLost :
    let s := claimSending 0
    let sent : List Bool := (claimWire.bits.drop 0).map (!·)
    let h := driving .air (flying (.hold 1) ⟨0, 0, 0⟩) []
    let held := Wire.make .hold 5 toAll [40, 0, 1]
    let other : List Bool := (held.bits.drop 0).map (!·)
    s.Claims 30 [] (claimFlying 0) [] ⟨0, 0, 0⟩ ∧
      (s.running = true ∧ s.driving = true ∧ s.lne.tx = some claimWire ∧ s.lne.read = 0) ∧
      (h.running = true ∧ h.driving = true ∧ h.lne.tx = some held ∧ h.lne.read = 0 ∧ held.frameKind ≠ some .claim) ∧
      -- bits as sent, up to the eighth and to the ninth
      (other.take 8 <+: other ∧ other.take 9 <+: other) ∧
      -- recessive ones sent: the last of the arbitration field, a later one; of a CLAIM the first after it, the last of the
      -- identity and the first past it; a dominant one: the start bit
      (other.take 8 ++ [false] <+: other ∧ other.take 12 ++ [false] <+: other) ∧
      (∀ n ∈ [9, 74, 75], sent.take n ++ [false] <+: sent ∧ (sent.take n).length = n) ∧ [] ++ [true] <+: other ∧
      State.reset.running = false ∧ base.driving = false := by
  refine ⟨claimSending_claims 0, ?_⟩
  decide +kernel

/-- The same two stations: bits as sent to the end of the arbitration field make the frame SENDING, and the loss is where the
first bit read dominant and sent recessive stands (R107, R108). -/
theorem test_contention_read :
    let h := driving .air (flying (.hold 1) ⟨0, 0, 0⟩) []
    let other : List Bool := h.lne.tx.toList.flatMap fun w => w.bits.map (!·)
    let sent : List Bool := claimWire.bits.map (!·)
    (after (.contentionLost (other.take 8)) h).lne.part = .contending ∧
      (after (.contentionLost (other.take 9)) h).lne.part = .sending ∧
      (after (.contentionLost (other.take 8 ++ [true])) h).lne.part = .listening ∧
      (after (.contentionLost (sent.take 74 ++ [true])) (claimSending 0)).pcu.tries = 1 ∧
      (after (.contentionLost (sent.take 75 ++ [true])) (claimSending 0)).pcu.tries = 0 := by decide +kernel

/-- R109: the first bit after the arbitration field of the same HOLD read dominant and sent recessive, and its start bit read
recessive, are collisions: the station listens, and the attempt is counted. -/
theorem test_collision_read :
    let h := driving .air (flying (.hold 1) ⟨0, 0, 0⟩) []
    let other : List Bool := h.lne.tx.toList.flatMap fun w => w.bits.map (!·)
    ∀ bits ∈ [other.take 12 ++ [true], [false]],
      (after (.contentionLost bits) h).lne.part = .listening ∧
        (after (.contentionLost bits) h).obq.air.map (·.flight) = [some ⟨1, 0, 0⟩] := by decide +kernel

/-- R36: the TAKE whose record an own take for another item supersedes is to be placed again; a TAKE that bears the number of
a superseded record whose frame is gone is not. -/
theorem test_superseded_take :
    let first := after (.send 0 0 0xFF 1 [0, 3, 255, 0, 0, 9]) base
    let idle (s : State) : State := { s with eqp := base.eqp }
    let gone : State := { idle first with obq := { first.obq with air := [], sequence := first.obq.sequence - 1 } }
    let second (s : State) := after (.send 0 0 0xFF 1 [0, 4, 255, 0, 0, 9]) s
    ((second (idle first)).obq.air.map fun e => (e.superseded, e.tied)) = [(true, false), (false, true)] ∧
      ((second gone).obq.air.map fun e => (e.sequence, e.superseded)) = [(first.obq.air.map (·.sequence)).headD none].map
        (fun q => (q, false)) := by decide +kernel

/-- A guarded take of an item, of a station that has been ACTIVE since. -/
def guard (i : ItemId) : GuardedTake :=
  { item := i, wasOwn := false, origin := .takeNext, terms := { address := toAll, lead := 4, carried := none }, lapsed := false }

/-- A SWEEP for item 3 being sent, after `n` counted attempts, that the guarded take `g` waits for; the station expects peer 7,
of the CLIP role, and is in `m`. -/
def deciding (n : Nat) (g : GuardedTake) (m : Mode) (l : List QueueEntry) : State :=
  let s := driving .air (flying (.sweep 3) ⟨n, 0x80, 0⟩) l
  { s with tke := { s.tke with guarded := some g }, pcu := { s.pcu with mode := m } }

theorem deciding_drives (n : Nat) (g : GuardedTake) (m : Mode) (l : List QueueEntry) :
    (deciding n g m l).Drives .air (flying (.sweep 3) ⟨n, 0x80, 0⟩) ⟨n, 0x80, 0⟩ l :=
  ⟨rfl, rfl, by rfl, rfl, nofun, rfl, rfl⟩

/-- R145: a number conflict while the sweep runs leaves the guarded take waiting, and when the sweep ends, with the number won
again, it is refused NOT_ACTIVE (log entry 41). -/
theorem test_lapsed_guard :
    let t := after (.clearFrame (rx .clear 5 toAll [9])) { base with tke := { base.tke with guarded := some (guard 3) } }
    t.tke.guarded = some { guard 3 with lapsed := true } ∧
      (after (.attemptSent 0) (deciding 0 { guard 3 with lapsed := true } .active [])).eqp.fifo.map (·.event) =
        [.sweepResult 3 .sent 0x80 0 0x80, .takeIgnored .notActive 3] := by decide +kernel

/-- R145: slot 5 read dominant in the frame by which station 5 loses its number makes no entry for 5; slot 9 makes one (log
entry 47). -/
theorem test_conflict_slots :
    let t := after (.clearFrame { rx .clear 5 toAll [9] with slots := 0x220 }) base
    t.pcu.ownNumber = 0 ∧ t.pcu.peer 5 = none ∧ t.pcu.presence 9 = .present := by decide +kernel

theorem witness_CollisionCounts :
    let e (p : Payload) (n : Nat) : QueueEntry := flying p ⟨n, 0x80, 0⟩
    let polling (n : Nat) : State := { driving .routine (e .poll n) [] with pcu := { peered.pcu with poll := .queued 7 } }
    ((driving .air (e (.hold 1) 2) []).Drives .air (e (.hold 1) 2) ⟨2, 0x80, 0⟩ [] ∧
        (driving .routine (e .lockout 2) []).Drives .routine (e .lockout 2) ⟨2, 0x80, 0⟩ [] ∧ 2 + 1 < 1 + base.values.retryLimit) ∧
      ((driving .air (e (.hold 1) 3) []).Drives .air (e (.hold 1) 3) ⟨3, 0x80, 0⟩ [] ∧
        (driving .routine (e .lockout 3) []).Drives .routine (e .lockout 3) ⟨3, 0x80, 0⟩ [] ∧
        1 + base.values.retryLimit ≤ 3 + 1 ∧ (e (.hold 1) 3).payload.kind.acknowledged = true ∧
        (e .lockout 3).payload.kind.acknowledged = true) ∧
      ((driving .air (e (.sweep 1) 3) []).Drives .air (e (.sweep 1) 3) ⟨3, 0x80, 0⟩ [] ∧
        (driving .air (e (.sweep 1) 3) []).tke.guarded = none) ∧
      ((deciding 3 (guard 3) .active []).Drives .air (e (.sweep 3) 3) ⟨3, 0x80, 0⟩ [] ∧
        (deciding 3 (guard 3) .active []).tke.guarded = some (guard 3)) ∧
      ((driving .routine (e .poll 3) []).Drives .routine (e .poll 3) ⟨3, 0x80, 0⟩ [] ∧ (polling 3).sendsClaim = false ∧
        (polling 3).pcu.poll = .queued 7) ∧
      (driving .routine (e (.announce 0 0 .remote 0 0) 3) []).Drives .routine (e (.announce 0 0 .remote 0 0) 3) ⟨3, 0x80, 0⟩ [] ∧
      (claimSending 2).Claims 30 [] (claimFlying 2) [] ⟨2, 0, 0⟩ ∧ (claimSending 3).Claims 30 [] (claimFlying 3) [] ⟨3, 0, 0⟩ := by
  refine ⟨⟨drives_of rfl ?_, drives_of rfl ?_, ?_⟩, ⟨drives_of rfl ?_, drives_of rfl ?_, ?_⟩, ⟨drives_of rfl ?_, ?_⟩,
    ⟨deciding_drives 3 _ _ _, ?_⟩, ⟨drives_of rfl ?_, ?_⟩, drives_of rfl ?_, claimSending_claims 2, claimSending_claims 3⟩ <;>
    decide +kernel

theorem witness_AttemptSentAcknowledged :
    let e (n : Nat) : QueueEntry := flying (.take 3 100 1002) ⟨n, 0x80, 0⟩
    let d (n : Nat) : QueueEntry := flying (.drop 3) ⟨n, 0x80, 0⟩
    ((driving .air (e 0) []).Drives .air (e 0) ⟨0, 0x80, 0⟩ [] ∧ (driving .air (e 2) []).Drives .air (e 2) ⟨2, 0x80, 0⟩ [] ∧
        (driving .air (e 3) []).Drives .air (e 3) ⟨3, 0x80, 0⟩ []) ∧
      ((driving .routine (d 0) []).Drives .routine (d 0) ⟨0, 0x80, 0⟩ [] ∧
        (driving .routine (d 2) []).Drives .routine (d 2) ⟨2, 0x80, 0⟩ [] ∧
        (driving .routine (d 3) []).Drives .routine (d 3) ⟨3, 0x80, 0⟩ []) ∧
      ((e 3).payload.kind.acknowledged = true ∧ (d 3).payload.kind.acknowledged = true ∧ (e 3).payload.kind = .take ∧
        (e 3).superseded = false ∧ peered.pcu.peers.length = 30) ∧
      (0x80 : StationSet) &&& ~~~ (0 ||| (driving .air (e 0) []).answered 0x80) = 0 ∧
      (0x80 : StationSet) &&& ~~~ (0 ||| (driving .air (e 3) []).answered 0) ≠ 0 ∧
      2 + 1 < 1 + base.values.retryLimit ∧ 1 + base.values.retryLimit ≤ 3 + 1 ∧
      -- a station that answers for the first time, one that misses, and a limit that one miss reaches
      (inSet ((driving .air (e 0) []).answered 0x200) 9 = true ∧ (driving .air (e 0) []).pcu.presence 9 ≠ .present ∧
        inSet ((driving .air (e 0) []).answered 0x200) 8 = false ∧
        (driving .air (e 3) []).pcu.presence 7 ≠ .absent ∧ 0 + 1 < base.values.absentLimit ∧
        (withValues { Config.defaults with absentLimit := 1 } (driving .air (e 3) [])).Drives .air (e 3) ⟨3, 0x80, 0⟩ [] ∧
        (withValues { Config.defaults with absentLimit := 1 } (driving .air (e 3) [])).values.absentLimit ≤ 0 + 1) := by
  have h : (driving .air (flying (.take 3 100 1002) ⟨3, 0x80, 0⟩) []).Drives .air _ ⟨3, 0x80, 0⟩ [] :=
    drives_of rfl (by decide +kernel)
  refine ⟨⟨drives_of rfl ?_, drives_of rfl ?_, drives_of rfl ?_⟩, ⟨drives_of rfl ?_, drives_of rfl ?_, drives_of rfl ?_⟩, ?_, ?_,
    ?_, ?_, ?_, ?_, ?_, ?_, ?_, ?_, ⟨h.1, h.2, h.3, h.4, h.5, h.6, h.7⟩, ?_⟩ <;>
    decide +kernel

theorem witness_SweepDecidesGuardedTake :
    let e := flying (.sweep 3) ⟨0, 0x80, 0⟩
    let at' (g : GuardedTake) : State := deciding 0 g .active []
    let masked (r : RoleSet) : State := withValues { Config.defaults with guardRoles := r } (at' (guard 3))
    let full : State := deciding 0 (guard 3) .active (List.replicate 8 (entry (.hold 1)))
    ((driving .air e []).Drives .air e ⟨0, 0x80, 0⟩ [] ∧ (driving .air e []).tke.guarded = none ∧ e.payload = .sweep 3) ∧
      (∀ g m l, (deciding 0 g m l).Drives .air e ⟨0, 0x80, 0⟩ l ∧ (deciding 0 g m l).tke.guarded = some g ∧
        (deciding 0 g m l).pcu.peers.length = 30) ∧
      -- another item; no longer ACTIVE, and not throughout; a LOCAL state; an item that is gone
      ((guard 4).item ≠ 3 ∧ (deciding 0 (guard 3) .claiming []).pcu.mode ≠ .active ∧
        (at' { guard 3 with lapsed := true }).pcu.mode = .active ∧ { guard 3 with lapsed := true }.lapsed = true) ∧
      ({ guard 3 with origin := .takeInput }.origin = .takeInput ∧ (locally (at' (guard 3))).tke.control = .localControl ∧
        (guard 3).origin ≠ .takeInput ∧ { guard 3 with wasOwn := true }.wasOwn = true ∧ (at' (guard 3)).findItem 3 = none) ∧
      -- a guard role not ready, and none; a full queue, and room; a pending take for each place of R36
      (inSet (0x80 &&& ~~~ (masked 4).answered 0) 7 = true ∧ (masked 4).pcu.peer 7 = some clipPeer ∧
        (4 : RoleSet) &&& (masked 4).values.guardRoles ≠ 0 ∧ (4 : RoleSet) &&& (masked 8).values.guardRoles = 0 ∧
        (∀ k < 31, inSet (0x80 &&& ~~~ (masked 8).answered 0) k = true → k = 7) ∧ full.obq.air.length = 9 ∧
        (at' (guard 3)).tke.pendingTake = none ∧ (take 3).item = 3 ∧
        Count.before 1004 (take 3).air = false ∧ Count.before 1004 { take 3 with air := 1005 }.air = true ∧ (take 4).item ≠ 3) := by
  refine ⟨⟨drives_of rfl ?_, ?_⟩, fun g m l => ⟨deciding_drives 0 g m l, rfl, rfl⟩, ?_⟩ <;> decide +kernel

theorem witness_PollAndClaimOutcomes :
    let e := flying .poll ⟨0, 0x80, 0⟩
    let s : State := { driving .routine e [] with pcu := { peered.pcu with poll := .queued 7 } }
    let w : State := within [.claimResubmit, .recompute] { base with
      pcu := { PeerCensus.fresh 0 0 with candidate := some 30, claimWaiting := true } }
    let full : State := { w with obq := { w.obq with routine := List.replicate 16 (entry .lockout) } }
    (s.Drives .routine e ⟨0, 0x80, 0⟩ [] ∧ e.payload = .poll ∧ s.pcu.poll = .queued 7 ∧
        inSet (s.answered 0x80) 7 = true ∧ inSet (s.answered 0) 7 = false) ∧
      ((claimSending 0).Claims 30 [] (claimFlying 0) [] ⟨0, 0, 0⟩ ∧ (claimSending 0).pcu.ownNumber = 0 ∧
        (0x40000000 : StationSet).getLsbD 30 = true ∧ (0 : StationSet).getLsbD 30 = false) ∧
      noHandOff [.recompute] ∧
      (∀ x ∈ [w, full], x.running = true ∧ x.pulseRest = .claimResubmit :: [.recompute] ∧ x.pcu.claimWaiting = true ∧
        x.pcu.candidate = some 30) ∧ w.obq.routine.length < 16 ∧ 16 ≤ full.obq.routine.length ∧
      (within [.claimResubmit, .recompute] base).running = true ∧
      (within [.claimResubmit, .recompute] base).pulseRest = .claimResubmit :: [.recompute] ∧
      (within [.claimResubmit, .recompute] base).pcu.claimWaiting = false := by
  have h : (driving .routine (flying .poll ⟨0, 0x80, 0⟩) []).Drives .routine (flying .poll ⟨0, 0x80, 0⟩) ⟨0, 0x80, 0⟩ [] :=
    drives_of rfl (by decide +kernel)
  refine ⟨⟨⟨h.1, h.2, h.3, h.4, h.5, h.6, h.7⟩, ?_⟩, ⟨claimSending_claims 0, ?_⟩, noHandOff_recompute, ?_⟩ <;> decide +kernel

/-! #### Received frames -/

theorem witness_CensusAndConflict :
    let a := rx .announce 7 toAll [0, 0, 0, 0, 0, 1, 4, 3, 0, 1, 0xFF, 0xFE]
    let st := rx .status 7 (toNumber 5) [3, 0, 0, 0, 0, 0, 0, 32, 0x80, 0, 0, 0]
    let c := rx .claim 30 (toNumber 30) [0, 0, 0, 0, 0, 1, 4]
    (base.pcu.peers.length = 30 ∧ base.mayReceive = true) ∧
      (a.wire.heardAs .announce = true ∧ a.wire.sender.toNat ≠ base.pcu.ownNumber ∧
        Control.ofCode (byteAt a.wire.body 7) = some .localLocked ∧ field16 a.wire.body 8 ≠ 0xFFFF ∧
        field16 a.wire.body 10 ≠ 0xFFFF) ∧
      (st.wire.heardAs .status = true ∧ Control.ofCode (byteAt st.wire.body 0) = some .localLocked) ∧
      (c.wire.heardAs .claim = true ∧ inSet c.slots c.wire.sender.toNat = false ∧ c.wire.sender.toNat ≠ base.pcu.ownNumber) ∧
      ((rx .clear 5 toAll [9]).wire.heardAs .clear = true ∧ base.pcu.ownNumber ≠ 0 ∧
        (rx .clear 5 toAll [9]).wire.sender.toNat = base.pcu.ownNumber) ∧
      -- presences that change and one that does not, slots that answer, the own one left out
      (base.pcu.presence 7 ≠ .present ∧ base.pcu.presence 30 ≠ .present ∧ peered.pcu.presence 7 = .present ∧
        inSet (base.answered 0x220) 9 = true ∧ base.pcu.presence 9 ≠ .present ∧ inSet (base.answered 0x220) 5 = false ∧
        inSet (base.answered 0x220) 8 = false) := by decide +kernel

/-- A station of every role. -/
def allRoles (s : State) : State := withValues { Config.defaults with roles := 0xFF } s

/-- `base` with item 3, whose one element needs its ready flag and has it clear. -/
def unready : State := { base with rls := ⟨[it 3 .waiting [{ el 1 .start 0 0 with needsReady := true }]]⟩ }

/-- One frame of every kind that a station of every role accepts, for station 5 or for all. -/
def acceptable : List (Kind × RxFrame) :=
  [(.take, rx .take 7 toAll [9, 0, 3, 4, 0, 3, 0xFF, 0xFF]), (.clear, rx .clear 7 toAll [9]), (.standby, rx .standby 7 toAll [9, 0, 3]),
    (.hold, rx .hold 7 toAll [9, 0, 1]), (.resume, rx .resume 7 toAll [9, 0, 1]), (.stretch, rx .stretch 7 toAll [9, 0, 1, 0, 9]),
    (.cue, rx .cue 7 toAll [9, 0, 1, 5]), (.sweep, rx .sweep 7 toAll [0, 3]), (.attention, rx .attention 7 toDirectors [9, 3, 0, 0]),
    (.drop, rx .drop 7 toAll [9, 0, 3]), (.float, rx .float 7 toAll [9, 0, 3]), (.restore, rx .restore 7 toAll [9, 0, 3]),
    (.poll, rx .poll 7 (toNumber 5) []), (.status, rx .status 7 (toNumber 5) [3, 0, 0, 0, 0, 0, 0, 32, 0, 0, 0, 0]),
    (.lockout, rx .lockout 7 toAll [9]), (.release, rx .release 7 toAll [9]),
    (.announce, rx .announce 7 toAll [0, 0, 0, 0, 0, 1, 4, 3, 0, 1, 0, 0]), (.claim, rx .claim 5 (toNumber 5) [0, 0, 0, 0, 0, 1, 4])]

/-- `showing` of every role, with a poll of station 7 that awaits its answer. -/
def answering : State := allRoles { showing with pcu := { showing.pcu with poll := .awaiting 7 1003 } }

theorem witness_AcceptanceDecision :
    let f := rx .clear 7 toAll [9]
    let n : RxFrame := { f with wire.check := 0 }
    let again : State := { base with pcu := { base.pcu with
      peers := base.pcu.peers.set 6 (some { clipPeer with lastSequence := some 9 }) } }
    (base.mayReceive = true ∧ f.wire.heardAs .clear = true ∧ base.pcu.peers.length = 30 ∧
        f.wire.sender.toNat ≠ base.pcu.ownNumber) ∧
      (∀ x ∈ acceptable, answering.mayReceive = true ∧ x.2.wire.heardAs x.1 = true ∧ answering.pcu.mode = .active ∧
        (x.2.wire.sender.toNat ≠ answering.pcu.ownNumber ∨ x.1 = .claim)) ∧
      (∀ x ∈ acceptable, answering.isAddressed x.2.wire ∧ answering.passesTest x.2.wire x.1) ∧
      ¬base.isAddressed (rx .clear 7 toDirectors [9]).wire ∧ again.isRepeat f.wire ∧
      -- an item in the list that is not ready, a station under local control, an item that the list has not, a carried duration
      -- past the range, a STATUS that is not awaited, a CLAIM for another number
      (¬unready.passesTest (rx .sweep 7 toAll [0, 3]).wire .sweep ∧
        ¬(locally answering).passesTest (rx .sweep 7 toAll [0, 3]).wire .sweep ∧
        answering.passesTest (rx .sweep 7 toAll [0, 9]).wire .sweep ∧
        ¬base.passesTest (rx .take 7 toAll [9, 0, 3, 4, 0, 4, 0, 0]).wire .take ∧
        ¬base.passesTest (rx .status 7 (toNumber 5) [3, 0, 0, 0, 0, 0, 0, 32, 0, 0, 0, 0]).wire .status ∧
        ¬base.passesTest (rx .claim 6 (toNumber 6) [0, 0, 0, 0, 0, 1, 4]).wire .claim) ∧
      base.running = true ∧ base.driving = false ∧ n.wire.heard = false := by
  simp only [State.isAddressed_iff, State.passesTest_iff, State.isRepeat_iff]
  decide +kernel

theorem witness_TakeFramePlacesATake :
    let f := rx .take 7 toAll [9, 0, 3, 255, 0, 3, 0xFF, 0xFF]
    let late := rx .take 7 toAll [9, 0, 3, 0, 0, 0, 0, 0]
    let same : State := { base with tke := { base.tke with pendingTake := some (take 3) } }
    let other : State := { base with
      tke := { base.tke with pendingTake := some { take 4 with made := true } }
      obq := { base.obq with air := [{ entry (.take 4 250 1000) with tied := true }, entry (.take 5 250 1000)] } }
    (∀ s ∈ [base, same, other], s.pcu.peers.length = 30) ∧
      (base.HearsNew .take f ∧ same.HearsNew .take f ∧ other.HearsNew .take f ∧ base.HearsNew .take late) ∧
      validItem (field16 f.wire.body 1) = true ∧ (field24 f.wire.body 5).toNat ≤ 262143 ∧
      validItem (field16 late.wire.body 1) = true ∧ base.tke.pendingTake = none ∧ same.tke.pendingTake = some (take 3) ∧
      other.tke.pendingTake = some { take 4 with made := true } := by
  refine ⟨by decide +kernel, ⟨hearsNew_of (hears_of ?_) ?_, hearsNew_of (hears_of ?_) ?_, hearsNew_of (hears_of ?_) ?_,
    hearsNew_of (hears_of ?_) ?_⟩, ?_⟩ <;> decide +kernel

/-- `showing` hears what `base` hears. -/
theorem showing_hears {k : Kind} {f : RxFrame}
    (h : (showing.mayReceive && f.wire.heardAs k && showing.isActive && showing.addressed f.wire &&
      f.wire.sender.toNat != showing.pcu.ownNumber && (showing.pcu.peer f.wire.sender.toNat).isNone) = true) :
    showing.HearsNew k f := by
  rw [Bool.and_eq_true] at h
  exact hearsNew_of (hears_of h.1) h.2

theorem witness_ClearFrameClears :
    showing.HearsNew .clear (rx .clear 7 toAll [9]) ∧ showing.runListSound ∧ showing.pointersSound ∧
      holding.HearsNew .clear (rx .clear 7 toAll [9]) ∧ holding.runListSound ∧ holding.pointersSound ∧
      showing.hasEntry 1 1 = true ∧ showing.hasEntry 1 2 = false := by
  refine ⟨showing_hears ?_, showing_list, showing_pointers, hearsNew_of (hears_of ?_) ?_, holding_list, holding_pointers,
    ?_⟩ <;> decide +kernel

theorem witness_StandbyFrameStandsBy :
    let f (lo : Byte) := rx .standby 7 toAll [9, 0, lo]
    (∀ lo ∈ [3, 4, 5, 2, 1, 9], validItem (field16 (f lo).wire.body 1) = true) ∧
      showing.HearsNew .standby (f 3) ∧ showing.HearsNew .standby (f 2) ∧ showing.HearsNew .standby (f 1) ∧
      showing.HearsNew .standby (f 9) ∧ showing.runListSound ∧ showing.pointersSound ∧
      (showing.findItem 3).map (·.state) = some .waiting ∧ (showing.findItem 2).map (·.state) = some .standby ∧
      (showing.findItem 1).map (·.state) = some .onAir ∧ showing.findItem 9 = none ∧ showing.fsc.queue.length + 1 ≤ 32 := by
  refine ⟨?_, showing_hears ?_, showing_hears ?_, showing_hears ?_, showing_hears ?_, showing_list, showing_pointers, ?_⟩ <;>
    decide +kernel

theorem witness_HoldAndResume :
    let h (lo : Byte) := rx .hold 7 toAll [9, 0, lo]
    let r (lo : Byte) := rx .resume 7 toAll [9, 0, lo]
    (showing.HearsNew .hold (h 1) ∧ validItem (field16 (h 1).wire.body 1) = true ∧ showing.runListSound ∧
        showing.tke.onAir = .own 1 ∧ (showing.findItem 1).map (·.held) = some false ∧
        (showing.goEntry 1 1).isSome = true ∧ showing.goEntry 1 2 = none) ∧
      (holding.HearsNew .resume (r 1) ∧ holding.runListSound ∧ holding.tke.onAir = .own 1 ∧
        (holding.findItem 1).map (·.held) = some true ∧ holding.fsc.queue.length + 2 * 1 ≤ 32 ∧
        (holding.findElement 1 1).map (fun e => (e.state, e.remainder, e.primeFrame)) = some (.held, some 1400, none)) ∧
      (showing.HearsNew .hold (h 2) ∧ showing.tke.onAir ≠ .own 2 ∧ holding.HearsNew .hold (h 1) ∧
        showing.HearsNew .resume (r 1)) := by
  refine ⟨⟨showing_hears ?_, ?_, showing_list, ?_⟩, ⟨hearsNew_of (hears_of ?_) ?_, holding_list, ?_⟩, showing_hears ?_, ?_,
    hearsNew_of (hears_of ?_) ?_, showing_hears ?_⟩ <;> decide +kernel

/-- `base` with another pointer and pending take. -/
def aired (a : OnAir) (p : Option PendingTake) : State := { base with tke := { base.tke with onAir := a, pendingTake := p } }

/-- The on-air item of `stretching` with an END element PRIMED at 100,890 beside one SCHEDULED, pre-roll 255 and 75: after a
stretch to 900 frames the GO of either would fall late. -/
def stretchingPrimed : State :=
  { stretching with rls := ⟨[{ it 412 .onAir [{ el 1 .ending 0 255 with state := .primed, primeFrame := some 100890 },
      { el 3 .ending 0 75 with state := .scheduled }] with airStart := some 100000 }]⟩ }

/-- What R9 speaks of: room in the queue, a PRIMED and a SCHEDULED element anchored at END, and lateness after the change. -/
theorem witness_durationSet :
    (stretchingPrimed.portReady ∧ stretchingPrimed.runListSound ∧ stretchingPrimed.pcu.mode = .active ∧
        stretchingPrimed.obq.air.length < 8) ∧
      (stretchingPrimed.findItem 412).map (fun x => (x.state, x.airStart, x.duration)) = some (.onAir, some 100000, 1500) ∧
      stretchingPrimed.fsc.queue.length + 2 * 2 ≤ 32 ∧
      ((after (.amendItem 412 900 0 0 2) stretchingPrimed).findItem 412).map (·.elements.map (·.late)) = some [244, 75] ∧
      ((after (.amendItem 412 1501 0 0 2) stretchingPrimed).findItem 412).map (·.elements.map (·.late)) = some [0, 0] := by
  refine ⟨⟨⟨?_, ?_⟩, ⟨?_, ?_, ?_, ?_⟩, ?_⟩, ?_⟩ <;> decide +kernel

theorem witness_StretchFrameStretches :
    let f (lo hi d : Byte) := rx .stretch 7 toAll [9, 0, lo, hi, d]
    (∀ lo ∈ [1, 3, 9], validItem (field16 (f lo 0x7F 0xFF).wire.body 1) = true) ∧
      (aired (.foreign 9 262143 900) (some (take 9))).HearsNew .stretch (f 9 0x7F 0xFF) ∧
      (showing.HearsNew .stretch (f 1 0x80 0) ∧ showing.runListSound ∧ (∀ d S, showing.tke.onAir ≠ .foreign 1 d S) ∧
        (showing.findItem 1).map (·.duration) = some 1500 ∧ showing.fsc.queue.length + 2 * 2 ≤ 32) ∧
      showing.HearsNew .stretch (f 1 0 0) ∧
      ((aired .none (some (take 9))).HearsNew .stretch (f 9 0 1) ∧ (aired .none (some (take 9))).findItem 9 = none) ∧
      base.HearsNew .stretch (f 9 0 1) ∧ base.tke.pendingTake = none := by
  refine ⟨?_, hearsNew_of (hears_of ?_) ?_, ⟨showing_hears ?_, showing_list, fun d S h => (by cases h), ?_⟩, showing_hears ?_,
    ⟨hearsNew_of (hears_of ?_) ?_, ?_⟩, hearsNew_of (hears_of ?_) ?_, ?_⟩ <;> decide +kernel

theorem witness_CueFrameForcesAStage :
    let f (lo st : Byte) := rx .cue 7 toAll [9, 0, lo, st]
    ((allRoles showing).HearsNew .cue (f 1 4) ∧ (allRoles showing).HearsNew .cue (f 1 5) ∧
        (allRoles showing).HearsNew .cue (f 2 0) ∧ (allRoles base).HearsNew .cue (f 1 1)) ∧
      (allRoles showing).hasRole floorBit = true ∧ (allRoles base).hasRole floorBit = true ∧
      (∀ lo ∈ [1, 2], validItem (field16 (f lo 5).wire.body 1) = true ∧ (byteAt (f lo 5).wire.body 3).toNat ≤ 5) ∧
      (allRoles showing).tke.onAir.itemId = 1 ∧ byteAt (f 1 4).wire.body 3 = Stage.over.code := by
  refine ⟨⟨hearsNew_of (hears_of ?_) ?_, hearsNew_of (hears_of ?_) ?_, hearsNew_of (hears_of ?_) ?_,
    hearsNew_of (hears_of ?_) ?_⟩, ?_⟩ <;> decide +kernel

/-- A station of every role with an attention list. -/
def attending (l : List AttentionRecord) : State := allRoles { base with pcu := { base.pcu with attention := l } }

/-- A record of a sender with the reason OPERATOR_CALL. -/
def called (k : Nat) : AttentionRecord := { sender := k, reason := .operatorCall, item := 1, count := 15, first := 900 }

theorem witness_AttentionList :
    let f := rx .attention 7 toDirectors [9, 3, 0xFF, 0xFE]
    let full := (List.range 16).map fun k => called (k + 8)
    ((attending [called 7]).HearsNew .attention f ∧ (attending []).HearsNew .attention f ∧
        (attending full).HearsNew .attention f) ∧
      (attending []).hasRole directorBit = true ∧ Reason.ofCode (byteAt f.wire.body 1) = some .operatorCall ∧
      field16 f.wire.body 2 ≠ 0xFFFF ∧ (attending [called 7]).pcu.attention[0]? = some (called 7) ∧
      full.length = 16 ∧ (∀ a ∈ full, ¬(a.sender = 7 ∧ a.reason = .operatorCall)) ∧
      ((attending [called 7]).running = true ∧ (attending [called 7]).eqp.port = .idle) ∧
      30 < (31 : Byte).toNat ∧ Reason.ofCode 4 = none ∧ Reason.ofCode 3 = some .operatorCall := by
  refine ⟨⟨hearsNew_of (hears_of ?_) ?_, hearsNew_of (hears_of ?_) ?_, hearsNew_of (hears_of ?_) ?_⟩, ?_⟩ <;> decide +kernel

theorem witness_LineEdits :
    let f (k : Kind) (lo : Byte) := rx k 7 toAll [9, 0, lo]
    (showing.HearsNew .drop (f .drop 2) ∧ showing.HearsNew .float (f .float 2) ∧ showing.HearsNew .restore (f .restore 4) ∧
        showing.HearsNew .drop (f .drop 1) ∧ showing.HearsNew .float (f .float 9)) ∧
      (∀ k ∈ [Kind.drop, .float, .restore], ∀ lo ∈ [1, 2, 4, 9], validItem (field16 (f k lo).wire.body 1) = true) ∧
      showing.runListSound ∧ showing.pointersSound ∧ showing.findItem 9 = none ∧
      (showing.findItem 1).map (·.state) = some .onAir ∧ (showing.findItem 4).map (·.state) = some .floated := by
  refine ⟨⟨showing_hears ?_, showing_hears ?_, showing_hears ?_, showing_hears ?_, showing_hears ?_⟩, ?_, showing_list,
    showing_pointers, ?_⟩ <;> decide +kernel

theorem witness_ControlStates :
    base.HearsNew .lockout (rx .lockout 7 toAll [9]) ∧ base.HearsNew .release (rx .release 7 toAll [9]) ∧ base.portReady ∧
      (2 : Byte) ≠ 0 ∧ (2 : Byte) ≠ 1 ∧
      ({ base with tke := { base.tke with control := .remoteLocked } }).tke.control = .remoteLocked := by
  refine ⟨hearsNew_of (hears_of ?_) ?_, hearsNew_of (hears_of ?_) ?_, base_ready, ?_⟩ <;> decide +kernel

/-! #### Requests at the port -/

theorem witness_LoadItem :
    let full : State := { base with rls := ⟨(List.range 96).map fun n => it (BitVec.ofNat 16 (n + 1)) .waiting []⟩ }
    (base.portReady ∧ showing.portReady) ∧ full.running = true ∧ full.eqp.port = .idle ∧ full.findItem 97 = none ∧
      96 ≤ full.rls.items.length ∧ (showing.findItem 5).isSome = true ∧ showing.findItem 6 = none ∧
      showing.rls.items.length < 96 ∧ showing.findItem 7 = none ∧
      showing.rls.items = showing.rls.items.take 2 ++ it 3 .waiting [el 1 .start 0 5] :: showing.rls.items.drop 3 ∧
      (∀ y ∈ showing.rls.items.take 2, y.id ≠ 3) ∧
      showing.day ≤ (2160000 : BitVec 24).toNat ∧ (2160000 : BitVec 24) ≠ 0xFFFFFF ∧ 1 < (2 : Byte).toNat := by
  refine ⟨⟨base_ready, showing_ready⟩, ?_⟩
  decide +kernel

theorem witness_AmendItem :
    showing.portReady ∧ showing.runListSound ∧ (showing.findItem 1).isSome = true ∧ showing.findItem 6 = none ∧
      2 < (3 : Byte).toNat ∧ showing.day ≤ (2160000 : BitVec 24).toNat ∧
      (showing.findItem 1).bind (·.airStart) = some 900 ∧ showing.fsc.queue.length + 2 * 2 ≤ 32 := by
  refine ⟨showing_ready, showing_list, ?_⟩
  decide +kernel

theorem witness_ItemEdits :
    showing.portReady ∧ showing.runListSound ∧ showing.pointersSound ∧ (showing.findItem 3).isSome = true ∧
      (showing.findItem 5).isSome = true ∧ showing.findItem 6 = none ∧
      showing.rls.items.filter (·.id != 3) =
        showing.rls.items.take 2 ++ it 4 .floated [] :: [it 5 .aired []] ∧
      (showing.findItem 1).map (·.state) = some .onAir ∧ (showing.findItem 2).map (·.state) = some .standby := by
  refine ⟨showing_ready, showing_list, showing_pointers, ?_⟩
  decide +kernel

theorem witness_LoadElement :
    let full : State := { base with rls := ⟨[it 1 .waiting ((List.range 16).map fun n => el (n + 1) .start 0 0)]⟩ }
    (showing.portReady ∧ showing.runListSound ∧ holding.portReady ∧ holding.runListSound ∧ full.portReady ∧
        full.runListSound) ∧
      (∀ e ∈ (List.range 15).map fun n => el (n + 1) .start 0 0, e.id ≠ (16 : Byte).toNat) ∧
      (full.findItem 1).map (·.elements.length) = some 16 ∧ showing.findItem 6 = none ∧ showing.fsc.queue.length ≤ 30 ∧
      (∀ e ∈ (showing.findItem 1).map (·.elements), ∀ x ∈ e, x.id ≠ (16 : Byte).toNat) ∧
      Count.before (900 + 99) showing.now = true ∧ Count.before (900 + 100) showing.now = false ∧
      (showing.findItem 1).map (·.held) = some false ∧ (holding.findItem 1).map (·.held) = some true ∧
      16 < (17 : Byte).toNat ∧ ¬((9 : Byte).toNat ≤ 8 ∨ 16 ≤ (9 : Byte).toNat ∧ (9 : Byte).toNat ≤ 23) := by
  refine ⟨⟨showing_ready, showing_list, ⟨?_, ?_⟩, holding_list, ⟨?_, ?_⟩, ?_, ?_, ?_, ?_⟩, ?_⟩ <;> decide +kernel

/-- A pool of 256 elements is full too: a new element of item 17 finds none (R1, R15). -/
theorem witness_LoadElement_pool :
    let s : State := { base with rls := ⟨(List.range 17).map fun n => it (BitVec.ofNat 16 (n + 1)) .waiting
      (if n = 16 then [] else (List.range 16).map fun m => el (m + 1) .start 0 0)⟩ }
    (s.portReady ∧ s.runListSound) ∧ poolUsed s.rls.items = 256 ∧ s.findItem 17 = some (it 17 .waiting []) := by
  refine ⟨⟨⟨?_, ?_⟩, ?_, ?_, ?_, ?_⟩, ?_⟩ <;> decide +kernel

theorem witness_ElementRequests :
    showing.portReady ∧ showing.runListSound ∧ (showing.findItem 2).isSome = true ∧ showing.findItem 6 = none ∧
      (showing.findElement 2 1).map (·.state) = some .primed ∧ showing.findElement 2 16 = none ∧ 1 < (2 : Byte).toNat := by
  refine ⟨showing_ready, showing_list, ?_⟩
  decide +kernel

theorem witness_SendRequests :
    let full := queued (List.replicate 8 (entry (.hold 1))) (List.replicate 16 (entry .lockout))
    let stuck := queued (List.replicate 8 (flying (.hold 1) ⟨0, 0, 0⟩)) []
    let guarded := withValues { Config.defaults with guard := true } base
    let waiting : State := { base with tke := { base.tke with guarded := some (guard 3) } }
    let busy : State := { base with obq := { base.obq with backpressure := .busy } }
    let polling : State := { base with pcu := { base.pcu with poll := .queued 7 } }
    let quietStation : State := { base with pcu := { base.pcu with mode := .listenOnly, ownNumber := 0 } }
    (∀ s ∈ [base, showing, full, stuck, guarded, waiting, busy, polling, quietStation], s.portReady) ∧
      (∀ s ∈ [base, showing, full, stuck, guarded, waiting, busy, polling], s.pcu.mode = .active) ∧ quietStation.pcu.mode ≠ .active ∧
      (base.goodAddress (.take 3 0 0) 0 0xFF ∧ base.goodAddress (.take 3 0 0) 1 30) ∧
      (base.goodAddress .clear 0 4 ∧ base.goodAddress .clear 1 30 ∧ quietStation.goodAddress .clear 1 30 ∧ (1 : Byte).toNat ≤ 1) ∧
      (13 ≤ (16 : Byte).toNat ∧ 1 < (2 : Byte).toNat ∧ 30 < (31 : Byte).toNat ∧ (5 : Byte).toNat = base.pcu.ownNumber ∧
        5 < (byteAt [0, 1, 6] 2).toNat ∧ 3 < (byteAt [4, 0, 1] 0).toNat ∧ field16 [3, 0xFF, 0xFF] 1 = 0xFFFF) ∧
      (waiting.tke.guarded ≠ none ∧ base.tke.guarded = none ∧ base.values.guard = false ∧ guarded.values.guard = true ∧
        base.obq.air = [] ∧ 8 ≤ full.obq.air.length ∧ base.tke.pendingTake = none) ∧
      (1 ≤ (30 : Byte).toNat ∧ (30 : Byte).toNat ≤ 30 ∧ (30 : Byte).toNat ≠ base.pcu.ownNumber ∧ polling.pcu.poll ≠ .idle ∧
        base.pcu.poll = .idle ∧ base.obq.backpressure = .admitting ∧ base.obq.routine.length < 16 ∧
        busy.obq.backpressure = .busy ∧ full.obq.backpressure = .admitting ∧ 16 ≤ full.obq.routine.length) ∧
      8 ≤ (stuck.obq.air.filter fun e => !removable e).length ∧ (full.obq.air.filter fun e => !removable e).length < 8 ∧
      showing.runListSound ∧ showing.pointersSound := by
  intro full stuck guarded waiting busy polling quietStation
  refine ⟨all_ready ?_, ?_, ?_, ⟨⟨.inl ⟨rfl, ?_⟩, nofun, nofun⟩, ⟨.inr ⟨rfl, ?_⟩, nofun, nofun⟩⟩,
    ⟨⟨.inl ⟨rfl, ?_⟩, nofun, nofun⟩, ⟨.inr ⟨rfl, ?_⟩, nofun, nofun⟩, ⟨.inr ⟨rfl, ?_⟩, nofun, nofun⟩, ?_⟩, ?_, ?_, ?_, ?_, ?_,
    showing_list, showing_pointers⟩
  all_goals decide +kernel

theorem merging_list : merging.runListSound := by
  refine ⟨?_, ?_, ?_, ?_⟩ <;> decide +kernel

theorem merging_pointers : merging.pointersSound := by
  refine ⟨by decide +kernel, by decide +kernel, ?_, ?_, ?_⟩ <;> rintro _ ⟨⟩

/-- R190: a carried duration of 262,144 in a SEND of a TAKE is clamped; 0xFFFFFF keeps the item's own. -/
theorem test_send_clamps : carriedOf (field24 [0, 3, 4, 0x04, 0, 0] 3) = some 262143 ∧
    carriedOf (field24 [0, 3, 4, 0xFF, 0xFF, 0xFF] 3) = none ∧
    validSendBody .take [0, 3, 4, 0x04, 0, 0] = true := by decide +kernel

/-- Every frame that a SEND submits as it is, with the address it may go to. -/
def sendables : List (Payload × Byte × Byte) :=
  [(.standby 3, 0, 0xFF), (.hold 1, 0, 0xFF), (.resume 1, 1, 7), (.stretch 1 (-32768), 0, 0xFF), (.stretch 1 32767, 0, 0xFF),
    (.cue 1 5, 0, 0x40), (.cue 1 4, 1, 30), (.sweep 3, 0, 4), (.attention .operatorCall 0, 0, 1), (.attention .notReady 7, 1, 1),
    (.drop 2, 0, 0xFF), (.float 2, 0, 0xFF), (.restore 4, 0, 0xFF), (.lockout, 0, 0xFF), (.release, 0, 0xFF)]

theorem witness_SendJoinsAndActs :
    let full := queued (List.replicate 8 (entry .clear)) (List.replicate 16 (entry .lockout))
    let busy : State := { base with obq := { base.obq with backpressure := .busy } }
    let quietStation : State := { base with pcu := { base.pcu with mode := .listenOnly, ownNumber := 0 } }
    (∀ s ∈ [base, showing, allRoles showing, merging, full, busy, quietStation], s.portReady) ∧
      (∀ x ∈ sendables, x.1.sendable ∧ base.goodAddress x.1 x.2.1 x.2.2) ∧ quietStation.pcu.mode ≠ .active ∧
      (∀ s ∈ [base, showing, allRoles showing, merging, full, busy], s.pcu.mode = .active) ∧
      (merging.obq.air = merging.obq.air.take 2 ++ { entry (.stretch 500 100) with sequence := some 62 } :: merging.obq.air.drop 3 ∧
        (entry (.stretch 500 100)).flight = none ∧ Payload.replaces (.stretch 500 50) (.stretch 500 100) ∧
        ∀ x ∈ merging.obq.air.take 2, x.flight = none → ¬Payload.replaces (.stretch 500 50) x.payload) ∧
      (merging.runListSound ∧ merging.pointersSound ∧ showing.runListSound ∧ showing.pointersSound) ∧
      (showing.obq.air = [] ∧ showing.obq.routine = [] ∧ showing.obq.backpressure = .admitting ∧ 8 ≤ full.obq.air.length ∧
        16 ≤ full.obq.routine.length ∧ full.obq.backpressure = .admitting ∧ busy.obq.backpressure = .busy) := by
  intro full busy quietStation
  refine ⟨all_ready ?_, ?_, ?_, ?_, ⟨?_, ?_, ?_, ?_⟩, ⟨merging_list, merging_pointers, showing_list, showing_pointers⟩, ?_⟩
  case refine_2 => simp [sendables, Payload.sendable, State.goodAddress, Payload.kind, base]
  case refine_7 => exact (rfl : (500 : ItemId) = 500)
  case refine_8 =>
    intro x hx
    simp [merging, entry, newEntry] at hx
    rcases hx with rfl | rfl <;> simp [Payload.replaces]
  all_goals decide +kernel

theorem showing_air (P : QueueEntry → Prop) : ∀ e ∈ showing.obq.air, P e := fun _ h => (List.not_mem_nil h).elim

theorem witness_NextRequests :
    let g := withValues { Config.defaults with guard := true } showing
    let waiting : State := { showing with tke := { showing.tke with guarded := some (guard 3) } }
    let full : State := { showing with obq := { showing.obq with air := List.replicate 8 (entry .clear) } }
    let quietStation : State := { base with pcu := { base.pcu with mode := .listenOnly, ownNumber := 0 } }
    let gFull := withValues { Config.defaults with guard := true } full
    let gSwept : State := { g with obq := { g.obq with air := [entry (.sweep 9), entry .clear] } }
    (∀ s ∈ [base, showing, g, waiting, full, quietStation, gFull, gSwept], s.running = true ∧ s.eqp.port = .idle) ∧
      (∀ s ∈ [base, showing, g, waiting, full, gFull, gSwept], s.pcu.mode = .active) ∧ quietStation.pcu.mode ≠ .active ∧
      waiting.tke.guarded ≠ none ∧ base.nextItem = none ∧ showing.nextItem = some 2 ∧ showing.values.guard = false ∧
      8 ≤ full.obq.air.length ∧ showing.obq.air.length < 8 ∧ showing.tke.pendingTake = none ∧ g.values.guard = true ∧
      (∀ e ∈ g.obq.air, e.flight = none → ∀ j, e.payload ≠ .sweep j) ∧ (∀ x ∈ base.afterPosition, x.state ≠ .waiting) ∧
      (gFull.values.guard = true ∧ gFull.nextItem = some 2 ∧ gFull.tke.guarded = none ∧ 8 ≤ gFull.obq.air.length ∧
        ∀ e ∈ gFull.obq.air, e.payload = .clear) ∧
      (gSwept.values.guard = true ∧ gSwept.nextItem = some 2 ∧ gSwept.tke.guarded = none ∧
        gSwept.obq.air = [] ++ entry (.sweep 9) :: [entry .clear] ∧ (entry (.sweep 9)).flight = none ∧
        (entry (.sweep 9)).payload = .sweep 9) ∧
      (showing.runListSound ∧ showing.pointersSound) ∧
      showing.afterPosition = (showing.rls.items.drop 1).take 1 ++ it 3 .waiting [el 1 .start 0 5] :: showing.rls.items.drop 3 ∧
      (∀ y ∈ (showing.rls.items.drop 1).take 1, y.state ≠ .waiting) ∧ ∀ e ∈ showing.obq.air, ∀ j, e.payload ≠ .standby j := by
  intro g waiting full quietStation gFull gSwept
  have hl : showing.runListSound ∧ showing.pointersSound := ⟨showing_list, showing_pointers⟩
  refine ⟨?_, ?_, ?_, ?_, ?_, ?_, ?_, ?_, ?_, ?_, ?_, showing_air _, ?_, ?_, ?_, hl, ?_, ?_, showing_air _⟩
  all_goals decide +kernel

/-- `showing` with item 6, WAITING, in front: it is passed (R1). -/
def passing : State := { showing with rls := ⟨it 6 .waiting [] :: showing.rls.items⟩ }

theorem passing_isPassed : passing.isPassed (it 6 .waiting []) :=
  ⟨rfl, [it 6 .waiting []], _, _, rfl, .head _, .inl rfl⟩

theorem witness_ReadRequests :
    (showing.rls.items = showing.rls.items.take 4 ++ it 5 .aired [] :: [] ∧ (∀ y ∈ showing.rls.items.take 4, y.id ≠ 5) ∧
        (5 : BitVec 16).toNat = (showing.rls.items.take 4).length + 1 ∧ showing.runListSound ∧ showing.pointersSound) ∧
      (passing.rls.items = [] ++ it 6 .waiting [] :: showing.rls.items ∧ passing.running = true ∧ passing.eqp.port = .idle ∧
        passing.runListSound ∧ passing.pointersSound) ∧
      showing.portReady ∧
      showing.findItem 6 = none ∧ showing.rls.items.length < (6 : BitVec 16).toNat ∧ (96 : BitVec 16).toNat ≤ 96 ∧
      96 < (97 : BitVec 16).toNat ∧ showing.pulseRest = [] ∧ 1 ≤ (95 : Byte).toNat ∧ (95 : Byte).toNat ≤ 95 ∧
      95 < (96 : Byte).toNat := by
  refine ⟨⟨by decide +kernel, by decide +kernel, by decide +kernel, showing_list, showing_pointers⟩,
    ⟨by decide +kernel, by decide +kernel, by decide +kernel, ⟨?_, ?_, ?_, ?_⟩, ?_, ?_, ?_, ?_, ?_⟩, showing_ready, ?_⟩
  case refine_7 => rintro _ ⟨⟩; decide +kernel
  case refine_8 => rintro _ ⟨⟩; decide +kernel
  case refine_9 => rintro _ ⟨⟩; decide +kernel
  all_goals decide +kernel

theorem witness_FetchEvents :
    base.portReady ∧ (1 ≤ (8 : Byte).toNat ∧ (8 : Byte).toNat ≤ 8) ∧ 8 < (9 : Byte).toNat ∧
      ((List.replicate 31 (⟨0, .release 1 1⟩ : EventRecord)).length < 32) ∧ base.eqp.fifo = [] ∧
      32 ≤ (List.replicate 32 (⟨0, .release 1 1⟩ : EventRecord)).length := by
  refine ⟨base_ready, ?_⟩
  decide +kernel

theorem witness_SummaryAndAcknowledgement :
    base.portReady ∧ 2 ^ 18 ≤ (0x40000 : BitVec 24).toNat ∧ (0x3FFFF : BitVec 24).toNat < 2 ^ 18 ∧
      (∃ f : SourceFlag, ({ base.eqp with flags := 0x80 } : EquipmentPort).flag f = true) ∧
      (0x80 : BitVec 24).getLsbD SourceFlag.events.bit = true ∧ base.eqp.fifo = [] ∧
      ({ base with eqp := { base.eqp with fifo := [⟨0, .release 1 1⟩] } }).eqp.fifo ≠ [] := by
  refine ⟨base_ready, by decide +kernel, by decide +kernel, ⟨.events, by decide +kernel⟩, ?_⟩
  decide +kernel

theorem witness_SetGroupEnables :
    base.portReady ∧ 32 ≤ (32 : Byte).toNat ∧ (31 : Byte).toNat < 32 ∧
      exec .fetchSummary base = .next (after .fetchSummary base) ∧ (∀ v, Instr.fetchSummary ≠ .setGroupEnables v) ∧
      (∀ b, Instr.fetchSummary ≠ .powerOn b) ∧ Instr.fetchSummary ≠ .resetActive ∧
      (∀ k, Instr.fetchSummary ≠ .restartRequest k) ∧ (∀ i, Instr.fetchSummary ≠ .restartEnd i) ∧
      State.reset.sul.phase = .restarting .cold := by
  refine ⟨base_ready, by decide, by decide, rfl, ?_⟩
  simp [State.reset]

theorem witness_PortFraming :
    let s : State := { base with eqp := { base.eqp with port := .responding, response := some [0x17, 6, 0, 0] } }
    (base.eqp.port ≠ .responding ∧ s.eqp.port = .responding ∧ s.eqp.response = some [0x17, 6, 0, 0]) ∧
      (4 < [(0x17 : Byte), 6, 0, 0].length + 1 ∧ [(0x17 : Byte), 6, 0, 0].length + 1 ≤ 5) ∧
      ((encodeRequest .readRestart).isSome = true ∧ s.running = true) ∧
      base.portReady ∧ (0x1D : Byte) ≠ 0 ∧ decodeRequest (0x1D :: [0]) = none := by
  refine ⟨by decide +kernel, by decide, by decide +kernel, base_ready, by decide, by decide +kernel⟩

theorem witness_RequestTransfersRoundTrip :
    (Instr.send 5 0 0xFF 0 [1, 2, 3, 4]).wf = true ∧
      encodeRequest (.send 5 0 0xFF 0 [1, 2, 3, 4]) = some [0x0A, 8, 5, 0, 0xFF, 0, 1, 2, 3, 4] ∧
      decodeRequest [0x0A, 8, 5, 0, 0xFF, 0, 1, 2, 3, 4] = some (.send 5 0 0xFF 0 [1, 2, 3, 4]) := by decide +kernel

/-! #### The invariants, in states other than reset -/

/-- `showing` with a command waiting. -/
def busyShow : State := { showing with pending := [.standbyNext] }

theorem witness_StoresStayBounded : busyShow.capacitySound ∧ ∃ t, step busyShow = .next t := by
  refine ⟨⟨?_, ?_, ?_, ?_, ?_, ?_, ?_, ?_, ?_⟩, _, rfl⟩ <;> decide +kernel

theorem witness_RunListStaysSound : busyShow.runListSound ∧ ∃ t, step busyShow = .next t := ⟨showing_list, _, rfl⟩

theorem witness_PointersStayInStep : busyShow.runListSound ∧ busyShow.pointersSound ∧ ∃ t, step busyShow = .next t :=
  ⟨showing_list, showing_pointers, _, rfl⟩

theorem witness_StationNumberFitsMode :
    busyShow.stationSound ∧ (∃ t, step busyShow = .next t) ∧ (claiming none).stationSound := by
  refine ⟨⟨.inl (by decide +kernel), ?_⟩, ⟨_, rfl⟩, .inr (by decide +kernel), ?_⟩
  · rintro _ ⟨⟩
  · rintro _ ⟨⟩
    decide

/-- A FLOOR station with the stage OVER, its lamps on, LINE set and enabled, and ATN asserted. -/
def lit : State :=
  allRoles { base with
    tmc := { TimingComputer.fresh with stage := .over, lw := true, lo := true }
    eqp := { base.eqp with groups := 2, atn := true } }

theorem witness_OutputsFollow : lit.atnSound ∧ lit.lampsSound ∧ step lit = .next lit := by
  refine ⟨⟨fun _ => ⟨.line, by decide +kernel⟩, fun _ => by decide +kernel⟩, ⟨?_, ?_, ?_⟩, rfl⟩ <;> decide +kernel

theorem witness_BackpressureFollowsTheRoutineQueue :
    let s : State := { queued [] (List.replicate 9 (entry .lockout)) with
      obq := { base.obq with routine := List.replicate 9 (entry .lockout), backpressure := .busy } }
    s.backpressureSound ∧ step s = .next s := by
  refine ⟨⟨?_, ?_, ?_, ?_⟩, rfl⟩ <;> decide +kernel

end Sys2Proof.Tests
end

section
/-! PROOFS. Control states (R46, R47): what hearing a frame of an acknowledged kind does beside the frame's own effect, what
a change of control state and its ANNOUNCE leave, and the moves of the table by frame, request and input. -/

namespace Sys2Proof.Machine

/-! ### What hearing a frame changes beside the frame's own effect (R103, R111, R113, R147) -/

/-- `t` is `s` but for the line, the peer entries and the port, and no event posted in `s` has left. -/
structure State.sameButHearing (s t : State) : Prop where
  elsewhere : ∃ l ps e, t = ((s.setLne l).setPcu { s.pcu with peers := ps }).setEqp e
  events : ∀ ev, s.posted ev → t.posted ev

theorem State.sameButHearing.refl (s : State) : s.sameButHearing s :=
  ⟨⟨s.lne, s.pcu.peers, s.eqp, rfl⟩, fun _ h => h⟩

theorem State.sameButHearing.trans {s t u : State} (h : s.sameButHearing t) (h' : t.sameButHearing u) :
    s.sameButHearing u := by
  refine ⟨?_, fun ev hs => h'.events ev (h.events ev hs)⟩
  obtain ⟨l, ps, e, rfl⟩ := h.elsewhere
  obtain ⟨l', ps', e', rfl⟩ := h'.elsewhere
  exact ⟨l', ps', e', rfl⟩

/-- A row of operations that each change no more than hearing does. -/
theorem State.sameButHearing_foldl {α : Type} {f : State → α → State}
    (hf : ∀ (s : State) (a : α), s.sameButHearing (f s a))
    (l : List α) (s : State) : s.sameButHearing (l.foldl f s) := by
  induction l generalizing s with
  | nil => exact .refl s
  | cons a l ih => exact (hf s a).trans (ih _)

theorem State.sameButHearing_setLne (l : LineEngine) (s : State) : s.sameButHearing (s.setLne l) :=
  ⟨⟨l, s.pcu.peers, s.eqp, rfl⟩, fun _ h => h⟩

theorem State.sameButHearing_raise (f : SourceFlag) (s : State) : s.sameButHearing (s.raise f) :=
  ⟨⟨s.lne, s.pcu.peers, s.eqp.raise f, rfl⟩, fun _ h => State.posted_raise_of f h⟩

theorem State.sameButHearing_post (ev : Event) (s : State) : s.sameButHearing (s.post ev) :=
  ⟨⟨s.lne, s.pcu.peers, s.eqp.post s.fck.count ev, rfl⟩, fun _ h => State.posted_post_of ev h⟩

theorem State.sameButHearing_setPeer (k : Nat) (e : Option Peer) (s : State) : s.sameButHearing (s.setPeer k e) := by
  refine ⟨⟨s.lne, (s.setPeer k e).pcu.peers, s.eqp, ?_⟩, fun _ h => h⟩
  unfold State.setPeer PeerCensus.setPeer
  split <;> rfl

theorem State.sameButHearing_touchPeer (k : Nat) (c : PeerCause) (s : State) :
    s.sameButHearing (s.touchPeer k c) := by
  unfold State.touchPeer State.writePeer
  simp only []
  split
  · exact s.sameButHearing_setPeer _ _
  · exact (s.sameButHearing_setPeer _ _).trans (State.sameButHearing_post _ _)

theorem State.sameButHearing_noteSequence (w : Wire) (s : State) : s.sameButHearing (s.noteSequence w) := by
  unfold State.noteSequence State.modPeer
  split
  · exact .refl s
  · exact s.sameButHearing_setPeer _ _

theorem State.sameButHearing_rollCall (answered : StationSet) (s : State) :
    s.sameButHearing (s.rollCall answered) :=
  State.sameButHearing_foldl (fun t k => t.sameButHearing_touchPeer k .answered) _ s

/-- A bit time changes the Line Engine, and at most a flag of the port (R110). -/
theorem State.lineBit_cases (b : Bool) (s : State) :
    (∃ l, s.lineBit b = s.setLne l) ∨ ∃ l, s.lineBit b = (s.setLne l).raise .lineStuck := by
  unfold State.lineBit
  simp only []
  split_ifs
  · exact .inr ⟨_, rfl⟩
  · exact .inl ⟨_, rfl⟩
  · exact .inl ⟨_, rfl⟩

theorem State.sameButHearing_lineBit (b : Bool) (s : State) : s.sameButHearing (s.lineBit b) := by
  rcases s.lineBit_cases b with ⟨l, h⟩ | ⟨l, h⟩ <;> rw [h]
  · exact s.sameButHearing_setLne l
  · exact (s.sameButHearing_setLne l).trans (State.sameButHearing_raise _ _)

@[simp] theorem State.lineBit_pcu (b : Bool) (s : State) : (s.lineBit b).pcu = s.pcu := by
  rcases s.lineBit_cases b with ⟨l, h⟩ | ⟨l, h⟩ <;> rw [h] <;> rfl

@[simp] theorem State.lineBits_pcu (bits : List Bool) (s : State) : (s.lineBits bits).pcu = s.pcu := by
  induction bits generalizing s with
  | nil => rfl
  | cons b bits ih => exact (ih (s.lineBit b)).trans (s.lineBit_pcu b)

theorem State.sameButHearing_toFrame (s : State) : s.sameButHearing s.toFrame := by
  unfold State.toFrame
  split
  · exact .refl s
  · exact State.sameButHearing_foldl (fun t b => t.sameButHearing_lineBit b) _ s

@[simp] theorem State.toFrame_pcu (s : State) : s.toFrame.pcu = s.pcu := by
  unfold State.toFrame
  split <;> simp

/-- What writing position `k` of the peer table reads back as: the entry, where the table has that position (R146). -/
theorem PeerCensus.peer_setPeer (k : Nat) (e : Peer) (p : PeerCensus) :
    (p.setPeer k (some e)).peer k = some e ∨ (p.setPeer k (some e)).peer k = none ∧ p.peer k = none := by
  unfold PeerCensus.peer PeerCensus.setPeer
  by_cases hk : k = 0
  · simp [hk]
  · by_cases hl : k - 1 < p.peers.length
    · simp [hk, hl]
    · simp [hk, hl]

/-- A touched peer's entry is the one held, or a new one, PRESENT, without misses and heard now (R111, R147). -/
theorem State.touchPeer_pcu (k : Nat) (c : PeerCause) (s : State) :
    (s.touchPeer k c).pcu = s.pcu.setPeer k
      (some { s.pcu.peerOr k .present with presence := .present, misses := 0, lastHeard := some s.now }) := by
  unfold State.touchPeer State.writePeer
  simp only []
  split <;> rfl

/-- An entry made anew has no last sequence (R146). -/
theorem PeerCensus.lastSequence_peerOr (k : Nat) (new : Presence) (p : PeerCensus) :
    (p.peerOr k new).lastSequence = (p.peer k).bind (·.lastSequence) := by
  unfold PeerCensus.peerOr
  cases p.peer k <;> rfl

/-- The census of a heard sender leaves its last sequence, so the repeat test reads the one held before (R113). -/
theorem State.repeats_touchPeer (w : Wire) (c : PeerCause) (s : State) :
    (s.touchPeer w.sender.toNat c).repeats w = s.repeats w := by
  unfold State.repeats
  rw [State.touchPeer_pcu]
  rcases s.pcu.peer_setPeer w.sender.toNat _ with h | ⟨h, hnone⟩ <;> rw [h]
  · rw [Option.bind_some, PeerCensus.lastSequence_peerOr]
  · rw [hnone]

/-- The census of a heard frame of an acknowledged kind from another number is that the sender has been heard (R147). -/
theorem State.census_acknowledged {kd : Kind} {w : Wire} {s : State} (hk : kd.acknowledged = true)
    (ho : w.sender.toNat ≠ s.pcu.ownNumber) : s.census kd w = s.touchPeer w.sender.toNat .heard := by
  cases kd
  case sweep | poll | status | announce | claim => exact absurd hk (by decide)
  all_goals simp [State.census, ho]

/-- Hearing a frame leaves what acceptance tests (R112): the number, the mode, the roles and what the kinds' tests read. -/
theorem State.sameButHearing.accepts {s t : State} (h : s.sameButHearing t) (kd : Kind) (w : Wire) :
    t.accepts kd w = s.accepts kd w := by
  obtain ⟨l, ps, e, rfl⟩ := h.elsewhere
  cases kd <;> rfl

/-- R112, R113: a new frame of an acknowledged kind that passes its kind's test acts.  Before its effect and after it no
more changes than hearing a frame changes. -/
theorem State.HearsNew.receive {s : State} {kd : Kind} {f : RxFrame} (h : s.HearsNew kd f)
    (hk : kd.acknowledged = true) (htest : s.kindTest kd f.wire = true) (effect : State → State) :
    ∃ u, s.sameButHearing u ∧ (effect u).sameButHearing (s.receive kd f effect) := by
  obtain ⟨⟨hmay, hheard, hactive, haddr, hother⟩, hnew⟩ := h
  have hclaim : kd ≠ .claim := by rintro rfl; exact absurd hk (by decide)
  have hcensus : s.toFrame.census kd f.wire = s.toFrame.touchPeer f.wire.sender.toNat .heard :=
    State.census_acknowledged hk (by simpa using hother)
  have hto : s.sameButHearing (s.toFrame.census kd f.wire) :=
    hcensus ▸ s.sameButHearing_toFrame.trans (State.sameButHearing_touchPeer _ _ _)
  have hconf : (s.toFrame.census kd f.wire).conflicts kd f.wire = false := by
    obtain ⟨l, ps, e, he⟩ := hto.elsewhere
    simp [State.conflicts, he, hother]
  have hacc : (s.toFrame.census kd f.wire).accepts kd f.wire = true := by
    rw [hto.accepts]
    simp [State.accepts, s.isActive_iff.2 hactive, haddr, htest]
  have hrep : (s.toFrame.census kd f.wire).repeats f.wire = false := by
    rw [hcensus, State.repeats_touchPeer, ← Bool.not_eq_true, ← State.isRepeat_iff]
    rintro ⟨p, hp, hseq⟩
    exact hnew p (by simpa using hp) hseq
  refine ⟨(s.toFrame.census kd f.wire).noteSequence f.wire, hto.trans (State.sameButHearing_noteSequence _ _), ?_⟩
  simp only [State.receive, hmay, hheard, Bool.and_self, if_true, State.decideFrame, hconf, hacc,
    Bool.false_eq_true, if_false, State.handFrame, hk, hrep, State.endRollCall, hclaim]
  exact (State.sameButHearing_rollCall _ _).trans (State.sameButHearing_setLne _ _)

/-! ### A change of control state (R46) -/

/-- R156: a frame of a kind that does not go to the air queue is submitted to the routine queue. -/
theorem State.submit_routine {p : Payload} (h : p.kind.inAir = false) (a : Address) (sub : Submitter) (s : State) :
    s.submit p a sub = s.submitRoutine p a sub := by
  have hclear : p.kind ≠ .clear := by
    intro hc
    exact absurd (hc ▸ h) (by decide)
  simp [State.submit, h, hclear]

/-- R157, R166: an ANNOUNCE stands in the routine queue alone, and joins it while there is room. -/
theorem State.announce_obq (s : State) :
    s.announce.obq.air = s.obq.air ∧
      (s.obq.routine.length < 16 → s.announce.obq.routine.map (fun e => (e.payload, e.address)) =
        s.obq.routine.map (fun e => (e.payload, e.address)) ++
          [(.announce s.pcu.identity s.values.roles s.tke.control s.tke.onAir.itemId (s.tke.standby.getD 0), toAll)]) := by
  rw [State.announce, State.submit_routine rfl]
  rcases s.submitRoutine_cases _ toAll .peerCensus with ⟨_, hport, _⟩ | ⟨hfull, h⟩ | ⟨_, h⟩
  · exact absurd hport (by decide)
  · rw [h]
    exact ⟨rfl, fun hroom => absurd hroom (by omega)⟩
  · rw [h]
    exact ⟨rfl, fun _ => by simp [OutboundQueues.setRoutine, newEntry]⟩

/-- An operation that touches no more than the port has made no change of control state. -/
theorem State.sameButPort.controlTo {s t : State} (h : s.sameButPort t) (c : ControlCause) (k : Nat) :
    s.controlTo t s.tke.control c k := by
  rw [State.sameButPort] at h
  rw [h]
  exact ⟨rfl, rfl, rfl, rfl, fun _ => rfl, fun hne => absurd rfl hne⟩

theorem State.sameButPort_refl (s : State) : s.sameButPort s := rfl

/-- R46: a change to another control state is made with its event and its ANNOUNCE. -/
theorem State.changeControl_controlTo {new : Control} {s : State} (h : new ≠ s.tke.control) (c : ControlCause) (k : Nat) :
    s.controlTo (s.changeControl new c k) new c k := by
  let u := (s.setTke { s.tke with control := new }).post (.controlChange s.tke.control new c k)
  have hu : s.changeControl new c k = u.announce := rfl
  obtain ⟨hair, hroutine⟩ := u.announce_obq
  have hposted : u.posted (.controlChange s.tke.control new c k) := State.posted_post _ _
  rw [hu]
  exact ⟨u.announce_tke, u.announce_rls, u.announce_fsc, hair, fun he => absurd he h,
    fun _ => ⟨State.posted_of_eq hposted (by rw [u.announce_eqp]) (by simp), hroutine⟩⟩

/-! ### The four moves of the table (R46, R47) -/

/-- R47: under lockout a local request posts its refusal and changes the port alone. -/
theorem State.localRequest_locked {s : State} (h : s.tke.control = .remoteLocked) (c : ControlCause) :
    s.localRequest c = s.post (.controlChange .remoteLocked .remoteLocked .refusedLocked 0) := by
  simp [State.localRequest, h]

theorem State.localRequest_controlTo (c : ControlCause) (s : State) :
    s.controlTo (s.localRequest c) s.tke.control.localRequested c 0 := by
  unfold State.localRequest
  cases h : s.tke.control
  case remote => exact State.changeControl_controlTo (by simp [h]) c 0
  case remoteLocked =>
    have hp : s.sameButPort (s.post (.controlChange .remoteLocked .remoteLocked .refusedLocked 0)) := rfl
    simpa [h, Control.localRequested] using hp.controlTo c 0
  all_goals simpa [h, Control.localRequested] using s.sameButPort_refl.controlTo c 0

theorem State.localRelease_controlTo (c : ControlCause) (s : State) :
    s.controlTo (s.localRelease c) s.tke.control.localReleased c 0 := by
  unfold State.localRelease
  cases h : s.tke.control
  case localControl | localLocked => exact State.changeControl_controlTo (by simp [h]) c 0
  all_goals simpa [h, Control.localReleased] using s.sameButPort_refl.controlTo c 0

theorem State.applyLockout_controlTo (k : Nat) (s : State) :
    s.controlTo (s.applyLockout k) s.tke.control.lockedOut .lockout k := by
  unfold State.applyLockout
  cases h : s.tke.control
  case remote | localControl => exact State.changeControl_controlTo (by simp [h]) .lockout k
  all_goals simpa [h, Control.lockedOut] using s.sameButPort_refl.controlTo .lockout k

theorem State.applyRelease_controlTo (k : Nat) (s : State) :
    s.controlTo (s.applyRelease k) s.tke.control.released .release k := by
  unfold State.applyRelease
  cases h : s.tke.control
  case remoteLocked | localLocked => exact State.changeControl_controlTo (by simp [h]) .release k
  all_goals simpa [h, Control.released] using s.sameButPort_refl.controlTo .release k

theorem State.changeControl_sameOutside (new : Control) (c : ControlCause) (k : Nat) (s : State) :
    s.sameOutside (s.changeControl new c k) := by
  simp [State.sameOutside]

theorem State.sameOutside_refl (s : State) : s.sameOutside s := ⟨rfl, rfl, rfl, rfl, rfl, rfl⟩

theorem State.applyLockout_sameOutside (k : Nat) (s : State) : s.sameOutside (s.applyLockout k) := by
  unfold State.applyLockout
  split
  · exact s.changeControl_sameOutside _ _ _
  · exact s.changeControl_sameOutside _ _ _
  · exact s.sameOutside_refl

theorem State.applyRelease_sameOutside (k : Nat) (s : State) : s.sameOutside (s.applyRelease k) := by
  unfold State.applyRelease
  split
  · exact s.changeControl_sameOutside _ _ _
  · exact s.changeControl_sameOutside _ _ _
  · exact s.sameOutside_refl

@[simp] theorem EquipmentPort.post_response (now : Count) (ev : Event) (e : EquipmentPort) :
    (e.post now ev).response = e.response := by
  unfold EquipmentPort.post
  simp only []
  split
  · simp
  · split <;> simp

@[simp] theorem State.post_response (ev : Event) (s : State) : (s.post ev).eqp.response = s.eqp.response :=
  s.eqp.post_response _ ev

@[simp] theorem State.changeControl_response (new : Control) (c : ControlCause) (k : Nat) (s : State) :
    (s.changeControl new c k).eqp.response = s.eqp.response := by
  simp [State.changeControl]

theorem State.localRequest_response (c : ControlCause) (s : State) :
    (s.localRequest c).eqp.response = s.eqp.response := by
  unfold State.localRequest
  split
  · simp
  · simp
  · rfl

theorem State.localRelease_response (c : ControlCause) (s : State) :
    (s.localRelease c).eqp.response = s.eqp.response := by
  unfold State.localRelease
  split
  · simp
  · simp
  · rfl

/-! ### The frames, the requests and the input -/

/-- A change of control state shows through what hearing changes before it and after it. -/
theorem State.controlTo.throughHearing {s u v t : State} {new : Control} {c : ControlCause} {k : Nat}
    (h : u.controlTo v new c k) (hu : s.sameButHearing u) (ht : v.sameButHearing t) : s.controlTo t new c k := by
  obtain ⟨htke, hrls, hfsc, hair, hsame, hchange⟩ := h
  obtain ⟨l, ps, e, rfl⟩ := hu.elsewhere
  have hevents := ht.events
  obtain ⟨l', ps', e', rfl⟩ := ht.elsewhere
  refine ⟨htke, hrls, hfsc, hair, hsame, fun hne => ?_⟩
  obtain ⟨hposted, hroutine⟩ := hchange hne
  exact ⟨hevents _ hposted, hroutine⟩

/-- An effect that leaves the other blocks leaves the station as it was, through what hearing changes. -/
theorem State.sameOutside.throughHearing {s u v t : State} (h : u.sameOutside v) (hu : s.sameButHearing u)
    (ht : v.sameButHearing t) : s.sameStation t := by
  obtain ⟨hfck, _, hpcu, hsul, hrest, hpending⟩ := h
  obtain ⟨l, ps, e, rfl⟩ := hu.elsewhere
  obtain ⟨l', ps', e', rfl⟩ := ht.elsewhere
  refine ⟨hfck, hsul, hrest, hpending, ?_, ?_, ?_, ?_⟩ <;> simp [hpcu]

/-- R46, R112, R113: a new frame whose effect is a move of the control state makes that move of the state before it. -/
theorem State.HearsNew.receive_controlTo {s : State} {kd : Kind} {f : RxFrame} {effect : State → State}
    {move : Control → Control} {c : ControlCause} {k : Nat} (h : s.HearsNew kd f) (hk : kd.acknowledged = true)
    (htest : s.kindTest kd f.wire = true) (hout : ∀ u : State, u.sameOutside (effect u))
    (hmove : ∀ u : State, u.controlTo (effect u) (move u.tke.control) c k) :
    s.sameStation (s.receive kd f effect) ∧ s.controlTo (s.receive kd f effect) (move s.tke.control) c k := by
  obtain ⟨u, hu, ht⟩ := h.receive hk htest effect
  have htke : u.tke = s.tke := by
    obtain ⟨l, ps, e, rfl⟩ := hu.elsewhere
    rfl
  exact ⟨(hout u).throughHearing hu ht, htke ▸ (hmove u).throughHearing hu ht⟩

/-- A response offered after a move of the control state leaves what the move is (R169). -/
theorem State.controlTo.offer {s t : State} {new : Control} {c : ControlCause} {k : Nat} (h : s.controlTo t new c k)
    (code : Byte) (r : Result) (fields : List Byte) :
    s.controlTo (t.setEqp (t.eqp.offer code r fields)) new c k := h

theorem State.offers_offer (code : Byte) (r : Result) (fields : List Byte) (s : State) :
    (s.setEqp (s.eqp.offer code r fields)).offers code r fields := ⟨rfl, rfl, rfl⟩

/-- SET CONTROL with the value for REMOTE, taken (R47). -/
theorem State.setControl_release {s : State} (h : s.portReady) : ∃ t, exec (.setControl 0) s = .next t ∧
    s.controlTo t s.tke.control.localReleased .request 0 ∧ t.offers 0x0D .done [] :=
  ⟨_, congrArg Host.Outcome.next (State.request_done h rfl), (s.localRelease_controlTo .request).offer _ _ _,
    State.offers_offer _ _ _ _⟩

/-- SET CONTROL with the value for LOCAL, taken (R47). -/
theorem State.setControl_request {s : State} (h : s.portReady) : ∃ t, exec (.setControl 1) s = .next t ∧
    s.controlTo t s.tke.control.localRequested .request 0 ∧
    t.offers 0x0D (if s.tke.control = .remoteLocked then .locked else .done) [] ∧
    (s.tke.control = .remoteLocked → s.sameButPort t ∧
      t.posted (.controlChange .remoteLocked .remoteLocked .refusedLocked 0)) := by
  have hexec : exec (.setControl 1) s = .next ((s.localRequest .request).setEqp ((s.localRequest .request).eqp.offer
      0x0D (if s.tke.control = .remoteLocked then .locked else .done) [])) := by
    change Host.Outcome.next (s.request 0x0D (State.setControlRequest 1)) = _
    simp [State.request, State.portTaking_of_ready h, State.setControlRequest]
  refine ⟨_, hexec, (s.localRequest_controlTo .request).offer _ _ _, State.offers_offer _ _ _ _, fun hl => ?_⟩
  rw [State.localRequest_locked hl]
  exact ⟨rfl, s.posted_post _⟩

/-- SET CONTROL with any other value, taken (R47). -/
theorem State.setControl_badField {s : State} (h : s.portReady) {v : Byte} (h0 : v ≠ 0) (h1 : v ≠ 1) :
    ∃ t, exec (.setControl v) s = .next t ∧ s.sameButPort t ∧ t.offers 0x0D .badField [] := by
  have hrefuse : State.setControlRequest v s = s.refuse .badField := by
    rw [State.setControlRequest, if_neg h0, if_neg h1]
  exact ⟨_, congrArg Host.Outcome.next (State.request_refuse h hrefuse (by decide)), rfl, State.offers_offer _ _ _ _⟩

/-- The recognised transitions of the LOCAL input are a local request and a local release (R57, R47). -/
theorem State.handOff_local (s : State) :
    s.controlTo (s.handOff .localOn) s.tke.control.localRequested .input 0 ∧
    s.controlTo (s.handOff .localOff) s.tke.control.localReleased .input 0 ∧
    (s.handOff .localOn).eqp.response = s.eqp.response ∧ (s.handOff .localOff).eqp.response = s.eqp.response ∧
    (s.tke.control = .remoteLocked → s.sameButPort (s.handOff .localOn) ∧
      (s.handOff .localOn).posted (.controlChange .remoteLocked .remoteLocked .refusedLocked 0)) := by
  have hon : s.handOff .localOn = s.localRequest .input := rfl
  have hoff : s.handOff .localOff = s.localRelease .input := rfl
  rw [hon, hoff]
  refine ⟨s.localRequest_controlTo _, s.localRelease_controlTo _, s.localRequest_response _, s.localRelease_response _,
    fun hl => ?_⟩
  rw [State.localRequest_locked hl]
  exact ⟨rfl, s.posted_post _⟩

/-- Settles O39: the frames by what receiving one does around its effect, the requests and the input by the moves of
R46's table. -/
theorem controlStates : Obligations.ControlStates := by
  refine ⟨fun f s => ⟨fun h => ⟨_, rfl, ?_⟩, fun h => ⟨_, rfl, ?_⟩⟩, fun s h => ?_, State.handOff_local⟩
  · exact h.receive_controlTo rfl rfl (State.applyLockout_sameOutside _) (State.applyLockout_controlTo _)
  · exact h.receive_controlTo rfl rfl (State.applyRelease_sameOutside _) (State.applyRelease_controlTo _)
  · exact ⟨State.setControl_release h, State.setControl_request h, fun _ => State.setControl_badField h⟩

end Sys2Proof.Machine
end

section
/-! PROOFS. A pulse taken part by part (R50, log entry 3): no part of a pulse reads or writes what is left of it, so the
parts that wait for their ticks leave what they leave when run at once. -/

namespace Sys2Proof.Machine

/-! ### What no part of a pulse reads or writes -/

/-- The state with other parts of its pulse left and in another phase.  Every operation within a pulse commutes with
this write: it reads neither of the two, and, as writing what is there already changes nothing, writes neither. -/
def State.setProgress (r : List PulsePart) (ph : Phase) (s : State) : State :=
  (s.setPulseRest r).setSul { s.sul with phase := ph }

section
variable {r : List PulsePart} {ph : Phase}

/-! ### The readings and the named updates -/

@[simp] theorem State.setProgress_tke (s : State) : (s.setProgress r ph).tke = s.tke := rfl
@[simp] theorem State.setProgress_fsc (s : State) : (s.setProgress r ph).fsc = s.fsc := rfl
@[simp] theorem State.setProgress_pcu (s : State) : (s.setProgress r ph).pcu = s.pcu := rfl
@[simp] theorem State.setProgress_sul (s : State) : (s.setProgress r ph).sul = { s.sul with phase := ph } := rfl

@[simp] theorem State.findItem_setProgress (id : ItemId) (s : State) :
    (s.setProgress r ph).findItem id = s.findItem id := rfl
@[simp] theorem State.findElement_setProgress (id : ItemId) (e : Nat) (s : State) :
    (s.setProgress r ph).findElement id e = s.findElement id e := rfl
@[simp] theorem State.nextItem_setProgress (s : State) : (s.setProgress r ph).nextItem = s.nextItem := rfl
@[simp] theorem State.ownTerms_setProgress (s : State) : (s.setProgress r ph).ownTerms = s.ownTerms := rfl
@[simp] theorem State.airFrame_setProgress (L : Nat) (s : State) : (s.setProgress r ph).airFrame L = s.airFrame L := rfl
@[simp] theorem State.carriedFor_setProgress (id : ItemId) (d : Option Nat) (s : State) :
    (s.setProgress r ph).carriedFor id d = s.carriedFor id d := rfl
@[simp] theorem State.takeDue_setProgress (s : State) : (s.setProgress r ph).takeDue = s.takeDue := rfl
@[simp] theorem State.outgoingId_setProgress (p : PendingTake) (s : State) :
    (s.setProgress r ph).outgoingId p = s.outgoingId p := rfl

@[simp] theorem State.setTke_setProgress (x : TakeEngine) (s : State) :
    (s.setProgress r ph).setTke x = (s.setTke x).setProgress r ph := rfl
@[simp] theorem State.setPcu_setProgress (x : PeerCensus) (s : State) :
    (s.setProgress r ph).setPcu x = (s.setPcu x).setProgress r ph := rfl
@[simp] theorem State.setObq_setProgress (x : OutboundQueues) (s : State) :
    (s.setProgress r ph).setObq x = (s.setObq x).setProgress r ph := rfl

@[simp] theorem State.post_setProgress (ev : Event) (s : State) :
    (s.setProgress r ph).post ev = (s.post ev).setProgress r ph := rfl
@[simp] theorem State.raise_setProgress (f : SourceFlag) (s : State) :
    (s.setProgress r ph).raise f = (s.raise f).setProgress r ph := rfl
@[simp] theorem State.modItem_setProgress (id : ItemId) (f : Item → Item) (s : State) :
    (s.setProgress r ph).modItem id f = (s.modItem id f).setProgress r ph := rfl
@[simp] theorem State.modElement_setProgress (id : ItemId) (e : Nat) (f : Element → Element) (s : State) :
    (s.setProgress r ph).modElement id e f = (s.modElement id e f).setProgress r ph := rfl
@[simp] theorem State.setQueue_setProgress (q : List FireEntry) (s : State) :
    (s.setProgress r ph).setQueue q = (s.setQueue q).setProgress r ph := rfl
@[simp] theorem State.withdraw_setProgress (id : ItemId) (e : Nat) (s : State) :
    (s.setProgress r ph).withdraw id e = (s.withdraw id e).setProgress r ph := rfl
@[simp] theorem State.setPendingTake_setProgress (p : Option PendingTake) (s : State) :
    (s.setProgress r ph).setPendingTake p = (s.setPendingTake p).setProgress r ph := rfl
@[simp] theorem State.clearLatch_setProgress (s : State) :
    (s.setProgress r ph).clearLatch = s.clearLatch.setProgress r ph := rfl
@[simp] theorem State.endOverride_setProgress (s : State) :
    (s.setProgress r ph).endOverride = s.endOverride.setProgress r ph := rfl

/-! ### The branches of an operation -/

/-- A branch on what the progress of the pulse does not touch, of two branches that leave the progress alone. -/
theorem State.ite_setProgress {c : Prop} [Decidable c] {s t s' t' : State} (hs : s' = s.setProgress r ph)
    (ht : t' = t.setProgress r ph) : (if c then s' else t') = (if c then s else t).setProgress r ph := by
  subst hs ht
  exact (apply_ite _ _ _ _).symm

/-- The same of an operation with a second answer. -/
theorem State.ite_mapProgress {α : Type} {c : Prop} [Decidable c] {x y x' y' : State × α}
    (hx : x' = x.map (State.setProgress r ph) id) (hy : y' = y.map (State.setProgress r ph) id) :
    (if c then x' else y') = (if c then x else y).map (State.setProgress r ph) id := by
  subst hx hy
  exact (apply_ite _ _ _ _).symm

/-! ### The submission of a frame (R156, R157) -/

theorem State.submitClear_setProgress (a : Address) (sub : Submitter) (s : State) :
    (s.setProgress r ph).submitClear a sub = (s.submitClear a sub).map (State.setProgress r ph) id := by
  have hposts (l : List QueueEntry) (t : State) :
      l.foldl (fun t e => t.post (purgedEvent e)) (t.setProgress r ph) =
        (l.foldl (fun t e => t.post (purgedEvent e)) t).setProgress r ph :=
    List.foldl_hom (State.setProgress r ph) fun _ _ => rfl
  refine State.ite_mapProgress rfl ?_
  rw [State.setObq_setProgress, hposts]
  rfl

theorem State.submitAir_setProgress (p : Payload) (a : Address) (sub : Submitter) (s : State) :
    (s.setProgress r ph).submitAir p a sub = (s.submitAir p a sub).map (State.setProgress r ph) id :=
  State.ite_mapProgress rfl (State.ite_mapProgress rfl rfl)

theorem State.submitRoutine_setProgress (p : Payload) (a : Address) (sub : Submitter) (s : State) :
    (s.setProgress r ph).submitRoutine p a sub = (s.submitRoutine p a sub).map (State.setProgress r ph) id :=
  State.ite_mapProgress rfl (State.ite_mapProgress rfl rfl)

@[simp] theorem State.submit_setProgress (p : Payload) (a : Address) (sub : Submitter) (s : State) :
    (s.setProgress r ph).submit p a sub = (s.submit p a sub).map (State.setProgress r ph) id :=
  State.ite_mapProgress (s.submitClear_setProgress a sub)
    (State.ite_mapProgress (s.submitAir_setProgress p a sub) (s.submitRoutine_setProgress p a sub))

@[simp] theorem State.autoAttention_setProgress (c : Reason) (i : ItemId) (s : State) :
    (s.setProgress r ph).autoAttention c i = (s.autoAttention c i).setProgress r ph :=
  State.ite_setProgress (congrArg Prod.fst (s.submit_setProgress ..)) rfl

@[simp] theorem State.announce_setProgress (s : State) :
    (s.setProgress r ph).announce = s.announce.setProgress r ph :=
  congrArg Prod.fst (s.submit_setProgress ..)

/-! ### The operator inputs (R30 to R36, R46, R57) -/

theorem State.localRequest_setProgress (c : ControlCause) (s : State) :
    (s.setProgress r ph).localRequest c = (s.localRequest c).setProgress r ph := by
  simp only [State.localRequest, State.changeControl, State.setProgress_tke]
  split <;> simp

theorem State.localRelease_setProgress (c : ControlCause) (s : State) :
    (s.setProgress r ph).localRelease c = (s.localRelease c).setProgress r ph := by
  simp only [State.localRelease, State.changeControl, State.setProgress_tke]
  split <;> simp

theorem State.markSuperseded_setProgress (p : PendingTake) (s : State) :
    (s.setProgress r ph).markSuperseded p = (s.markSuperseded p).setProgress r ph :=
  State.ite_setProgress rfl rfl

theorem State.placeTake_setProgress (p : PendingTake) (s : State) :
    (s.setProgress r ph).placeTake p = (s.placeTake p).setProgress r ph := by
  simp only [State.placeTake, State.setProgress_tke]
  split
  · rfl
  · refine State.ite_setProgress (State.ite_setProgress rfl rfl) ?_
    rw [State.markSuperseded_setProgress]
    rfl

@[simp] theorem State.makeTake_setProgress (i : ItemId) (t : TakeTerms) (s : State) :
    (s.setProgress r ph).makeTake i t = (s.makeTake i t).map (State.setProgress r ph) id := by
  simp only [State.makeTake, State.airFrame_setProgress, State.carriedFor_setProgress, State.submit_setProgress,
    Prod.map_fst, Prod.map_snd, id, State.placeTake_setProgress]
  split
  · exact congrArg (·, _) (State.ite_setProgress rfl rfl)
  · rfl

@[simp] theorem State.startTake_setProgress (i : ItemId) (o : Origin) (forced : Bool) (t : TakeTerms) (s : State) :
    (s.setProgress r ph).startTake i o forced t = (s.startTake i o forced t).map (State.setProgress r ph) id := by
  simp only [State.startTake, State.submit_setProgress, State.makeTake_setProgress, Prod.map_fst, Prod.map_snd, id]
  refine State.ite_mapProgress (State.ite_mapProgress rfl rfl) ?_
  split <;> rfl

theorem State.inputTake_setProgress (forced : Bool) (s : State) :
    (s.setProgress r ph).inputTake forced = (s.inputTake forced).setProgress r ph := by
  simp only [State.inputTake, State.nextItem_setProgress, State.ownTerms_setProgress, State.startTake_setProgress,
    Prod.map_fst, Prod.map_snd, id]
  refine State.ite_setProgress rfl (State.ite_setProgress rfl (State.ite_setProgress rfl ?_))
  split
  · rfl
  · exact State.ite_setProgress rfl rfl

theorem State.handOff_setProgress (h : HandOff) (s : State) :
    (s.setProgress r ph).handOff h = (s.handOff h).setProgress r ph := by
  cases h with
  | take => exact s.inputTake_setProgress false
  | force => exact s.inputTake_setProgress true
  | localOn => exact s.localRequest_setProgress .input
  | localOff => exact s.localRelease_setProgress .input

/-! ### The elements of an item (R8, R80 to R88) -/

theorem State.eachElement_setProgress {f : Element → State → State} (i : ItemId)
    (hf : ∀ x t, f x (t.setProgress r ph) = (f x t).setProgress r ph) (s : State) :
    (s.setProgress r ph).eachElement i f = (s.eachElement i f).setProgress r ph := by
  refine List.foldl_hom (State.setProgress r ph) fun t e => ?_
  rw [State.findElement_setProgress]
  cases t.findElement i e with
  | none => rfl
  | some x => exact hf x t

theorem State.placeEach_setProgress {f : Element → State → State × Bool} (i : ItemId)
    (hf : ∀ x t, f x (t.setProgress r ph) = (f x t).map (State.setProgress r ph) id) (s : State) :
    (s.setProgress r ph).placeEach i f = (s.placeEach i f).setProgress r ph := by
  have hshort {x x' : State × Bool} (hx : x' = x.map (State.setProgress r ph) id) :
      (if x'.2 then x'.1.autoAttention .prerollShort i else x'.1) =
        (if x.2 then x.1.autoAttention .prerollShort i else x.1).setProgress r ph := by
    subst hx
    exact State.ite_setProgress (x.1.autoAttention_setProgress ..) rfl
  refine hshort (List.foldl_hom (Prod.map (State.setProgress r ph) id) (init := (s, false)) fun t e => ?_)
  simp only [Prod.map_fst, State.findElement_setProgress]
  cases t.1.findElement i e with
  | none => rfl
  | some x =>
    simp only [hf]
    rfl

@[simp] theorem State.releaseIfPrimed_setProgress (i : ItemId) (x : Element) (s : State) :
    (s.setProgress r ph).releaseIfPrimed i x = (s.releaseIfPrimed i x).setProgress r ph :=
  State.ite_setProgress rfl rfl

theorem State.overflow_setProgress (i : ItemId) (e : Nat) (s : State) :
    (s.setProgress r ph).overflow i e = (s.overflow i e).setProgress r ph := by
  simp only [State.overflow, State.modElement_setProgress, State.raise_setProgress, State.autoAttention_setProgress]
  exact State.ite_setProgress rfl rfl

theorem State.placeEntries_setProgress (i : ItemId) (e : Nat) (prime : Option Count) (go due : Count)
    (st : ElementState) (s : State) : (s.setProgress r ph).placeEntries i e prime go due st =
      (s.placeEntries i e prime go due st).map (State.setProgress r ph) id :=
  State.ite_mapProgress (congrArg (·, _) (s.overflow_setProgress i e))
    (congrArg (·, _) (State.ite_setProgress rfl rfl))

@[simp] theorem State.placeUnprimed_setProgress (i : ItemId) (x : Element) (earliest due : Count) (s : State) :
    (s.setProgress r ph).placeUnprimed i x earliest due =
      (s.placeUnprimed i x earliest due).map (State.setProgress r ph) id :=
  State.ite_mapProgress (s.placeEntries_setProgress ..) (s.placeEntries_setProgress ..)

@[simp] theorem State.placePrimed_setProgress (i : ItemId) (x : Element) (Q due : Count) (s : State) :
    (s.setProgress r ph).placePrimed i x Q due = (s.placePrimed i x Q due).map (State.setProgress r ph) id :=
  s.placeEntries_setProgress ..

theorem State.scheduleElement_setProgress (i : ItemId) (S arrival : Count) (P : Nat) (retake : Bool) (x : Element)
    (s : State) : (s.setProgress r ph).scheduleElement i S arrival P retake x =
      (s.scheduleElement i S arrival P retake x).map (State.setProgress r ph) id := by
  simp only [State.scheduleElement, State.withdraw_setProgress, State.modElement_setProgress,
    State.placeUnprimed_setProgress, State.placePrimed_setProgress]
  split
  · exact State.ite_mapProgress rfl rfl
  · rfl

/-! ### The fire queue and the fire lines (R89 to R95) -/

@[simp] theorem State.driveLine_setProgress (n : Nat) (i : ItemId) (x : Element) (s : State) :
    (s.setProgress r ph).driveLine n i x = (s.driveLine n i x).map (State.setProgress r ph) id := by
  simp only [State.driveLine, State.setProgress_fsc]
  refine State.ite_mapProgress ?_ ?_
  · split <;> rfl
  · split
    · exact State.ite_mapProgress rfl rfl
    · rfl

@[simp] theorem State.fireGo_setProgress (i : ItemId) (e : Nat) (s : State) :
    (s.setProgress r ph).fireGo i e = (s.fireGo i e).setProgress r ph := by
  simp only [State.fireGo, State.findElement_setProgress]
  split
  · rfl
  · refine State.ite_setProgress rfl ?_
    split <;> simp

@[simp] theorem State.firePrime_setProgress (i : ItemId) (e : Nat) (s : State) :
    (s.setProgress r ph).firePrime i e = (s.firePrime i e).setProgress r ph := by
  simp only [State.firePrime, State.findElement_setProgress]
  split
  · rfl
  · exact State.ite_setProgress rfl rfl

theorem State.executeHead_setProgress (s : State) :
    (s.setProgress r ph).executeHead = s.executeHead.setProgress r ph := by
  simp only [State.executeHead, State.setProgress_fsc]
  split
  · rfl
  · split <;> simp

theorem State.passEntries_setProgress (n : Nat) (s : State) :
    (s.setProgress r ph).passEntries n = (s.passEntries n).setProgress r ph := by
  induction n generalizing s with
  | zero => rfl
  | succ n ih =>
    refine State.ite_setProgress ?_ rfl
    rw [State.executeHead_setProgress, ih]

/-! ### The execution of a take (R38, R39) -/

theorem State.takeOffElement_setProgress (i : ItemId) (x : Element) (s : State) :
    (s.setProgress r ph).takeOffElement i x = (s.takeOffElement i x).setProgress r ph := by
  refine State.ite_setProgress ?_ rfl
  split <;> simp

@[simp] theorem State.takeOutgoing_setProgress (p : PendingTake) (s : State) :
    (s.setProgress r ph).takeOutgoing p = (s.takeOutgoing p).setProgress r ph := by
  simp only [State.takeOutgoing, State.setProgress_tke]
  split
  · rename_i o _
    exact State.ite_setProgress rfl (State.eachElement_setProgress o (State.takeOffElement_setProgress o)
      (s.modItem o (Item.goOff p.air)))
  · rfl

theorem State.withdrawElement_setProgress (i : ItemId) (x : Element) (s : State) :
    (s.setProgress r ph).withdrawElement i x = (s.withdrawElement i x).setProgress r ph :=
  (s.withdraw i x.id).releaseIfPrimed_setProgress i x

theorem State.takeOwn_setProgress (p : PendingTake) (x : Item) (s : State) :
    (s.setProgress r ph).takeOwn p x = (s.takeOwn p x).setProgress r ph := by
  have heach := State.eachElement_setProgress (r := r) (ph := ph) p.item (State.withdrawElement_setProgress p.item)
  have hplace (b : Bool) := State.placeEach_setProgress (r := r) (ph := ph) p.item
    (State.scheduleElement_setProgress p.item p.air p.arrival x.duration b)
  unfold State.takeOwn
  cases x.state == .onAir
  · simp only [Bool.false_eq_true, if_false, State.modItem_setProgress, State.setTke_setProgress, hplace]
    rfl
  · simp only [if_true, heach, State.modItem_setProgress, State.setTke_setProgress, hplace]
    rfl

@[simp] theorem State.takeIncoming_setProgress (p : PendingTake) (s : State) :
    (s.setProgress r ph).takeIncoming p = (s.takeIncoming p).setProgress r ph := by
  simp only [State.takeIncoming, State.findItem_setProgress]
  split
  · exact s.takeOwn_setProgress p _
  · rfl

@[simp] theorem State.takeDone_setProgress (p : PendingTake) (o : ItemId) (s : State) :
    (s.setProgress r ph).takeDone p o = (s.takeDone p o).setProgress r ph :=
  State.ite_setProgress rfl rfl

theorem State.runTake_setProgress (s : State) : (s.setProgress r ph).runTake = s.runTake.setProgress r ph := by
  simp only [State.runTake, State.takeDue_setProgress]
  split
  · simp [State.executeTake]
  · rfl

/-! ### The parts of a pulse -/

theorem State.timeoutPoll_setProgress (s : State) :
    (s.setProgress r ph).timeoutPoll = s.timeoutPoll.setProgress r ph := by
  simp only [State.timeoutPoll, State.setProgress_pcu]
  split
  · exact State.ite_setProgress rfl rfl
  · rfl

theorem State.submitClaim_setProgress (s : State) :
    (s.setProgress r ph).submitClaim = s.submitClaim.setProgress r ph := by
  simp only [State.submitClaim, State.setProgress_pcu]
  split <;> simp

theorem State.recompute_setProgress (s : State) :
    (s.setProgress r ph).recompute = s.recompute.setProgress r ph := by
  refine State.ite_setProgress ?_ (State.ite_setProgress rfl rfl)
  rw [← State.raise_setProgress]
  exact congrArg (State.raise .overAlarm) (State.ite_setProgress rfl rfl)

/-- No part of a pulse reads or writes what is left of the pulse or the phase. -/
theorem State.runPart_setProgress (p : PulsePart) (s : State) :
    (s.setProgress r ph).runPart p = (s.runPart p).setProgress r ph := by
  cases p with
  | timeApplied => exact State.ite_setProgress rfl rfl
  | handOff h => exact s.handOff_setProgress h
  | pulseEnds | holdEnds => rfl
  | take => exact s.runTake_setProgress
  | entries n => exact s.passEntries_setProgress n
  | pass => exact s.passEntries_setProgress _
  | pollTimeout => exact s.timeoutPoll_setProgress
  | claimResubmit => exact State.ite_setProgress (s.submitClaim_setProgress) rfl
  | recompute => exact s.recompute_setProgress

end

/-- A part commutes with writing the phase that the state has, so it leaves the phase. -/
theorem State.runPart_phase (p : PulsePart) (s : State) : (s.runPart p).sul.phase = s.sul.phase := by
  have h : s.runPart p = (s.runPart p).setProgress s.pulseRest s.sul.phase := s.runPart_setProgress p
  rw [h]
  rfl

theorem State.runPart_setPulseRest (r : List PulsePart) (p : PulsePart) (s : State) :
    (s.setPulseRest r).runPart p = (s.runPart p).setPulseRest r :=
  calc (s.setPulseRest r).runPart p
      = (s.runPart p).setProgress r s.sul.phase := s.runPart_setProgress (r := r) (ph := s.sul.phase) p
    _ = (s.runPart p).setPulseRest r := by rw [← s.runPart_phase p]; rfl

theorem State.runParts_setPulseRest (r l : List PulsePart) (s : State) :
    (s.setPulseRest r).runParts l = (s.runParts l).setPulseRest r :=
  List.foldl_hom (State.setPulseRest r) fun t p => t.runPart_setPulseRest r p

theorem State.runPart_running (p : PulsePart) (s : State) : (s.runPart p).running = s.running :=
  congrArg (· == Phase.running) (s.runPart_phase p)

theorem State.runParts_running (l : List PulsePart) (s : State) : (s.runParts l).running = s.running := by
  induction l generalizing s with
  | nil => rfl
  | cons p l ih => exact (ih (s.runPart p)).trans (s.runPart_running p)

/-! ### The parts that have nothing to do -/

theorem State.mapLines_of_fixed {f : FireLine → FireLine} {s : State}
    (h : (!s.fsc.lines.any fun l => f l != l) = true) : s.mapLines f = s := by
  have hmap : s.fsc.lines.map f = s.fsc.lines :=
    (List.map_congr_left (by simpa using h)).trans s.fsc.lines.map_id
  rw [State.mapLines, hmap]
  rfl

theorem State.passEntries_of_not_headDue {s : State} (h : s.headDue = false) (n : Nat) : s.passEntries n = s := by
  cases n with
  | zero => rfl
  | succ n => simp [State.passEntries, h]

/-- A part that has nothing to do leaves the state as it is. -/
theorem State.runPart_of_idle {p : PulsePart} {s : State} (h : s.idlePart p = true) : s.runPart p = s := by
  cases p with
  | handOff | recompute => cases h
  | timeApplied =>
    have hdue : s.timeAnswerDue = false := by simpa [State.idlePart] using h
    simp [State.runPart, hdue]
  | pulseEnds => exact State.mapLines_of_fixed h
  | holdEnds => exact State.mapLines_of_fixed h
  | take =>
    have hdue : s.takeDue = none := Option.isNone_iff_eq_none.1 h
    simp [State.runPart, State.runTake, hdue]
  | entries n =>
    have hdue : n = 0 ∨ s.headDue = false := by simpa [State.idlePart] using h
    obtain rfl | hdue := hdue
    · rfl
    · exact State.passEntries_of_not_headDue hdue n
  | pass => exact State.passEntries_of_not_headDue (by simpa [State.idlePart] using h) _
  | pollTimeout =>
    simp only [State.runPart, State.timeoutPoll]
    split
    · rename_i k t hpoll
      have hlater : (t == s.now) = false := by simpa [State.idlePart, State.pollTimedOut, hpoll] using h
      rw [hlater]
      rfl
    · rfl
  | claimResubmit =>
    have hwaits : s.pcu.claimWaiting = false := by simpa [State.idlePart] using h
    simp [State.runPart, State.resubmitClaim, hwaits]

/-! ### A pulse taken part by part -/

/-- The tick takes the front part of the pulse under way. -/
theorem State.tick_setPulseRest {s : State} (hs : s.running = true) (p : PulsePart) (l : List PulsePart) :
    (s.setPulseRest (p :: l)).tick = ((s.runPart p).setPulseRest l).advanceOver l := by
  have hrun : (s.setPulseRest (p :: l)).running = true := hs
  simp [State.tick, hrun, State.runPart_setPulseRest, State.advance]

/-- The parts `l` of a pulse, gone on with and then taken by ticks of an empty queue, end in the state in which they
end when run at once. -/
theorem State.ticks_advanceOver (l : List PulsePart) {s : State} (hs : s.running = true) :
    ∃ n, State.tick^[n] (s.advanceOver l) = (s.runParts l).setPulseRest [] := by
  induction l generalizing s with
  | nil => exact ⟨0, rfl⟩
  | cons p l ih =>
    have hrun : (s.runPart p).running = true := (s.runPart_running p).trans hs
    have hcons : s.runParts (p :: l) = (s.runPart p).runParts l := rfl
    rw [State.advanceOver, hcons]
    split_ifs with honce hidle
    · exact ih hrun
    · rw [State.runPart_of_idle hidle]
      exact ih hs
    · obtain ⟨n, hn⟩ := ih (s := (s.runPart p).setPulseRest l) hrun
      refine ⟨n + 1, ?_⟩
      rw [Function.iterate_succ_apply, State.tick_setPulseRest hs, hn, State.runParts_setPulseRest]
      rfl

theorem State.applyTime_sul (s : State) : s.applyTime.sul = s.sul := by
  obtain ⟨_, h⟩ | ⟨_, _, _, h, _⟩ := s.applyTime_cases
  · rw [h]
  · rw [h]
    rfl

theorem State.countPulse_running (p : Pulse) (s : State) : (s.countPulse p).running = s.running :=
  calc (s.countPulse p).running
      = s.settle.running := congrArg (fun u : StartupLoader => u.phase == .running) s.settle.advanceCount.applyTime_sul
    _ = s.running := s.runParts_running s.pulseRest

/-! ### The commands that bring a pulse (R50, R54, R55) -/

/-- The own steps of the command that brings the pulse `p` leave one state, from which the pulse is finished whole or
as far as the world divides it. -/
def State.startsPulse (s : State) (command : Pulse → Instr) (p : Pulse) : Prop :=
  ∃ t : State, t.running = true ∧
    ∀ b, exec (command { p with divided := b }) s = .next (t.finishPulse { p with divided := b })

theorem State.startsPulse_framePulse {s : State} (h : s.running = true ∧ s.fck.status = .external) (p : Pulse) :
    s.startsPulse .framePulse p :=
  ⟨(s.countPulse p).setLossTimer 0,
    (s.countPulse_running p).trans h.1, fun _ => congrArg Host.Outcome.next (if_pos h)⟩

theorem State.startsPulse_refLost {s : State} (h : s.running = true ∧ s.fck.status = .external) (p : Pulse) :
    s.startsPulse .refLost p :=
  let t := s.countPulse p
  ⟨((t.setFck { t.fck with status := .freeRun, lossTimer := 3, internalPulses := 1 }).post
      (.refLost s.fck.count t.fck.count)).raise .refLost,
    (s.countPulse_running p).trans h.1, fun _ => congrArg Host.Outcome.next (if_pos h)⟩

theorem State.startsPulse_internalPulse {s : State} (h : s.running = true ∧ s.fck.status = .freeRun) (p : Pulse) :
    s.startsPulse .internalPulse p :=
  let t := s.countPulse p
  ⟨t.setFck { t.fck with lossTimer := nextInternal t.fck.lossTimer, internalPulses := t.fck.internalPulses + 1 },
    (s.countPulse_running p).trans h.1, fun _ => congrArg Host.Outcome.next (if_pos h)⟩

theorem State.startsPulse_refBack {s : State} {us : Nat} (h : s.running = true ∧ s.fck.status = .freeRun)
    (hcounts : ¬s.absorbs us = true) (p : Pulse) : s.startsPulse (.refBack us) p :=
  ⟨(s.countPulse p).refReturned, (s.countPulse_running p).trans h.1,
    fun _ => congrArg Host.Outcome.next ((if_pos h).trans (if_neg hcounts))⟩

/-- A pulse that one state starts ends alike, taken whole or divided and gone on with by ticks. -/
theorem State.startsPulse.whole_and_divided_agree {s : State} {command : Pulse → Instr} {p : Pulse}
    (h : s.startsPulse command p) :
    ∃ u v, exec (command { p with divided := false }) s = .next u ∧
      exec (command { p with divided := true }) s = .next v ∧ u.pulseRest = [] ∧ ∃ n, State.tick^[n] v = u := by
  obtain ⟨t, ht, hexec⟩ := h
  exact ⟨_, _, hexec false, hexec true, rfl, State.ticks_advanceOver t.pulseRest ht⟩

theorem RefStatus.eq_freeRun {x : RefStatus} (h : x ≠ .external) : x = .freeRun := by
  cases x with
  | external => exact absurd rfl h
  | freeRun => rfl

/-- Settles O12: the Frame Clock's own steps do not read how the pulse is taken, so the command leaves one state to go
on from, and from there the parts taken by ticks end as they do when run at once. -/
theorem dividingAPulseChangesNothing : Obligations.DividingAPulseChangesNothing := by
  intro c d s p hkind hs hstatus
  obtain ⟨rfl, rfl⟩ | ⟨rfl, rfl⟩ | ⟨rfl, rfl⟩ | ⟨us, habsorbs, rfl, rfl⟩ := hkind
  · exact (State.startsPulse_framePulse ⟨hs, hstatus.2 (.inl rfl)⟩ p).whole_and_divided_agree
  · exact (State.startsPulse_refLost ⟨hs, hstatus.2 (.inr rfl)⟩ p).whole_and_divided_agree
  · have hfree : s.fck.status = .freeRun := RefStatus.eq_freeRun (by simp [hstatus])
    exact (State.startsPulse_internalPulse ⟨hs, hfree⟩ p).whole_and_divided_agree
  · have hfree : s.fck.status = .freeRun := RefStatus.eq_freeRun (by simp [hstatus])
    exact (State.startsPulse_refBack ⟨hs, hfree⟩ (by simp [habsorbs]) p).whole_and_divided_agree

end Sys2Proof.Machine
end

section
/-! PROOFS. The reporting of the Equipment Port (R174 to R178): the groups' bits and ATN, what raising and clearing a source
flag does, and what ACK FLAGS does to flags, groups and counts. -/

namespace Sys2Proof.Machine

/-! ### The group bits and ATN (R175, R190) -/

theorem Group.mask_getLsbD (g k : Group) : ((1 : BitVec 5) <<< g.bit).getLsbD k.bit = decide (g = k) := by
  cases g <;> cases k <;> rfl

theorem Group.bit_lt (g : Group) : g.bit < 5 := by cases g <;> decide

/-- Every bit of a group field is a group's. -/
theorem Group.exists_bit : ∀ i < 5, ∃ g : Group, g.bit = i
  | 0, _ => ⟨.take, rfl⟩
  | 1, _ => ⟨.line, rfl⟩
  | 2, _ => ⟨.peer, rfl⟩
  | 3, _ => ⟨.fire, rfl⟩
  | 4, _ => ⟨.time, rfl⟩

theorem groupField_eq_zero {x : BitVec 5} : x = 0 ↔ ∀ g : Group, x.getLsbD g.bit = false := by
  constructor
  · rintro rfl g
    exact BitVec.getLsbD_zero
  · intro h
    refine BitVec.eq_of_getLsbD_eq fun i hi => ?_
    obtain ⟨g, rfl⟩ := Group.exists_bit i hi
    exact (h g).trans BitVec.getLsbD_zero.symm

/-- R175: ATN is asserted exactly when an enabled group flag is set. -/
theorem atnOf_iff (groups enables : BitVec 5) :
    atnOf groups enables = true ↔ ∃ g : Group, enables.getLsbD g.bit = true ∧ groups.getLsbD g.bit = true := by
  rw [atnOf, bne_iff_ne, ne_eq, groupField_eq_zero, not_forall]
  exact exists_congr fun g => by simp [and_comm]

/-! ### Raising and clearing a source flag (R174, R175) -/

theorem EquipmentPort.raise_of_set {f : SourceFlag} {e : EquipmentPort} (h : e.flag f = true) : e.raise f = e :=
  if_pos h

/-- A flag that was clear sets its group when it is raised, and no flag raised sets another's. -/
theorem EquipmentPort.raise_group (f : SourceFlag) (g : Group) (e : EquipmentPort) :
    (e.raise f).groups.getLsbD g.bit = (e.groups.getLsbD g.bit || (!e.flag f && decide (f.group = g))) := by
  unfold EquipmentPort.raise
  split
  · rename_i h
    simp [h]
  · rename_i h
    simp only [EquipmentPort.driveAtn, BitVec.getLsbD_or, Group.mask_getLsbD]
    simp [h]

theorem EquipmentPort.lower_flag (f g : SourceFlag) (e : EquipmentPort) :
    (e.lower f).flag g = (e.flag g && !decide (f = g)) := by
  simp only [EquipmentPort.lower, EquipmentPort.flag, BitVec.getLsbD_and, BitVec.getLsbD_not, SourceFlag.mask_getLsbD]
  simp [g.bit_lt]

/-! ### ACK FLAGS (R178) -/

/-- The first part of an ACK FLAGS: the flags named are clear, and the overflow count with EVENT_OVERFLOW. -/
def EquipmentPort.clearNamed (m : BitVec 18) (e : EquipmentPort) : EquipmentPort :=
  { e with
    flags := e.flags &&& ~~~ m
    overflows := if m.getLsbD SourceFlag.eventOverflow.bit then 0 else e.overflows }

/-- The second part: EVENTS, when it was named, is raised again over the records held. -/
theorem EquipmentPort.ack_cases (m : BitVec 18) (e : EquipmentPort) :
    (m.getLsbD SourceFlag.events.bit = true ∧ e.fifo ≠ [] ∧ e.ack m = (e.clearNamed m).raise .events) ∨
      ((m.getLsbD SourceFlag.events.bit = false ∨ e.fifo = []) ∧ e.ack m = e.clearNamed m) := by
  unfold EquipmentPort.ack EquipmentPort.clearNamed
  cases m.getLsbD SourceFlag.events.bit <;> cases e.fifo <;> simp

theorem EquipmentPort.clearNamed_flag (m : BitVec 18) (f : SourceFlag) (e : EquipmentPort) :
    (e.clearNamed m).flag f = (e.flag f && !m.getLsbD f.bit) := by
  simp [EquipmentPort.clearNamed, EquipmentPort.flag, f.bit_lt]

@[simp] theorem EquipmentPort.ack_enables (m : BitVec 18) (e : EquipmentPort) : (e.ack m).enables = e.enables := by
  obtain ⟨_, _, h⟩ | ⟨_, h⟩ := e.ack_cases m <;> simp [h, EquipmentPort.clearNamed]

@[simp] theorem EquipmentPort.ack_fifo (m : BitVec 18) (e : EquipmentPort) : (e.ack m).fifo = e.fifo := by
  obtain ⟨_, _, h⟩ | ⟨_, h⟩ := e.ack_cases m <;> simp [h, EquipmentPort.clearNamed]

@[simp] theorem EquipmentPort.ack_overruns (m : BitVec 18) (e : EquipmentPort) : (e.ack m).overruns = e.overruns := by
  obtain ⟨_, _, h⟩ | ⟨_, h⟩ := e.ack_cases m <;> simp [h, EquipmentPort.clearNamed]

@[simp] theorem EquipmentPort.ack_overflows (m : BitVec 18) (e : EquipmentPort) :
    (e.ack m).overflows = if m.getLsbD SourceFlag.eventOverflow.bit then 0 else e.overflows := by
  obtain ⟨_, _, h⟩ | ⟨_, h⟩ := e.ack_cases m <;> simp [h, EquipmentPort.clearNamed]

theorem EquipmentPort.ack_flag {f : SourceFlag} (hf : f ≠ .events) (m : BitVec 18) (e : EquipmentPort) :
    (e.ack m).flag f = true ↔ e.flag f = true ∧ m.getLsbD f.bit = false := by
  obtain ⟨_, _, h⟩ | ⟨_, h⟩ := e.ack_cases m <;> simp [h, EquipmentPort.clearNamed_flag, Ne.symm hf]

theorem EquipmentPort.ack_events (m : BitVec 18) (e : EquipmentPort) :
    (e.ack m).flag .events = true ↔
      (m.getLsbD SourceFlag.events.bit = false ∧ e.flag .events = true) ∨
        (m.getLsbD SourceFlag.events.bit = true ∧ e.fifo ≠ []) := by
  obtain ⟨hm, hq, h⟩ | ⟨hm | hq, h⟩ := e.ack_cases m
  · simp [h, hm, hq]
  · simp [h, hm, EquipmentPort.clearNamed_flag]
  · simp [h, hq, EquipmentPort.clearNamed_flag, and_comm]

/-- An acknowledgement leaves the groups unless it raises EVENTS again. -/
theorem EquipmentPort.ack_groups {m : BitVec 18} {e : EquipmentPort}
    (hm : m.getLsbD SourceFlag.events.bit = false ∨ e.fifo = []) : (e.ack m).groups = e.groups := by
  obtain ⟨hm', hq, _⟩ | ⟨_, h⟩ := e.ack_cases m
  · simp [hm', hq] at hm
  · rw [h]
    rfl

/-- EVENTS, cleared and raised again, sets LINE and no other group. -/
theorem EquipmentPort.ack_group_of_events {m : BitVec 18} {e : EquipmentPort}
    (hm : m.getLsbD SourceFlag.events.bit = true) (hq : e.fifo ≠ []) (g : Group) :
    (e.ack m).groups.getLsbD g.bit = true ↔ e.groups.getLsbD g.bit = true ∨ g = .line := by
  obtain ⟨_, _, h⟩ | ⟨hm' | hq', _⟩ := e.ack_cases m
  · have hclear : (e.clearNamed m).flag .events = false := by simp [EquipmentPort.clearNamed_flag, hm]
    rw [h, EquipmentPort.raise_group, hclear]
    simp [EquipmentPort.clearNamed, SourceFlag.group, @eq_comm Group .line]
  · simp [hm] at hm'
  · exact absurd hq' hq

end Sys2Proof.Machine
end

section
/-! PROOFS. The group enables (R176): no operation of any block but the Equipment Port's own SET GROUP ENABLES and a restart
writes them. One rule for each operation, in the order of the model's files. -/

namespace Sys2Proof.Machine

/-! ### The port and the reporting (R168 to R178) -/

@[simp] theorem EquipmentPort.post_enables (now : Count) (ev : Event) (e : EquipmentPort) :
    (e.post now ev).enables = e.enables := by
  unfold EquipmentPort.post
  split
  · simp
  · dsimp only
    split <;> simp

@[simp] theorem EquipmentPort.read_enables (n : Nat) (e : EquipmentPort) : (e.read n).enables = e.enables := by
  unfold EquipmentPort.read
  dsimp only
  split <;> rfl

@[simp] theorem State.post_enables (ev : Event) (s : State) : (s.post ev).eqp.enables = s.eqp.enables :=
  EquipmentPort.post_enables _ _ _

@[simp] theorem State.raise_enables (f : SourceFlag) (s : State) : (s.raise f).eqp.enables = s.eqp.enables :=
  EquipmentPort.raise_enables _ _

@[simp] theorem State.lower_enables (f : SourceFlag) (s : State) : (s.lower f).eqp.enables = s.eqp.enables := rfl

@[simp] theorem State.ignoreTake_enables (r : IgnoreReason) (i : ItemId) (s : State) :
    (s.ignoreTake r i).eqp.enables = s.eqp.enables := by
  simp [State.ignoreTake]

/-- A row of operations that each keep the enables. -/
theorem State.foldl_enables {α : Type} {f : State → α → State}
    (hf : ∀ (t : State) (a : α), (f t a).eqp.enables = t.eqp.enables) (l : List α) (s : State) :
    (l.foldl f s).eqp.enables = s.eqp.enables := by
  induction l generalizing s with
  | nil => rfl
  | cons a l ih => rw [List.foldl_cons, ih, hf]

/-- A request keeps the enables when the state that its reply leaves does. -/
theorem State.request_enables {f : State → Reply} {s : State} (hf : (f s).state.eqp.enables = s.eqp.enables)
    (code : Byte) : (s.request code f).eqp.enables = s.eqp.enables := by
  obtain ⟨_, h⟩ | ⟨_, h⟩ | ⟨_, h⟩ := s.request_cases code f <;> rw [h]
  · rfl
  · exact hf

/-! ### The Outbound Queues (R157) -/

@[simp] theorem State.submit_enables (p : Payload) (a : Address) (sub : Submitter) (s : State) :
    (s.submit p a sub).1.eqp.enables = s.eqp.enables := by
  by_cases h : p.kind = .clear
  · simp only [State.submit, h, beq_self_eq_true, if_true, State.submitClear]
    split
    · rfl
    · exact State.foldl_enables (fun _ _ => State.post_enables _ _) _ _
  · rw [s.submit_eqp p a sub h]

/-! ### The Peer and Census Unit (chapter 8) -/

@[simp] theorem State.writePeer_enables (k : Nat) (e : Peer) (c : PeerCause) (s : State) :
    (s.writePeer k e c).eqp.enables = s.eqp.enables := by
  simp only [State.writePeer]
  split <;> simp

@[simp] theorem State.touchPeer_enables (k : Nat) (c : PeerCause) (s : State) :
    (s.touchPeer k c).eqp.enables = s.eqp.enables :=
  State.writePeer_enables _ _ _ _

@[simp] theorem State.rollCall_enables (answered : StationSet) (s : State) :
    (s.rollCall answered).eqp.enables = s.eqp.enables :=
  State.foldl_enables (fun _ _ => State.touchPeer_enables _ _ _) _ _

@[simp] theorem State.missPeer_enables (k : Nat) (s : State) : (s.missPeer k).eqp.enables = s.eqp.enables := by
  simp only [State.missPeer]
  split <;> simp

@[simp] theorem State.missPeers_enables (missing : StationSet) (s : State) :
    (s.missPeers missing).eqp.enables = s.eqp.enables :=
  State.foldl_enables (fun _ _ => State.missPeer_enables _ _) _ _

@[simp] theorem State.modPeer_eqp (k : Nat) (f : Peer → Peer) (s : State) : (s.modPeer k f).eqp = s.eqp := by
  unfold State.modPeer
  split <;> simp

@[simp] theorem State.census_enables (kd : Kind) (w : Wire) (s : State) :
    (s.census kd w).eqp.enables = s.eqp.enables := by
  simp only [State.census]
  split
  · rfl
  · split <;> simp

@[simp] theorem State.censusClaim_enables (w : Wire) (slots : StationSet) (s : State) :
    (s.censusClaim w slots).eqp.enables = s.eqp.enables := by
  simp only [State.censusClaim]
  split <;> simp

/-- A CLAIM's submission leaves the port. -/
@[simp] theorem State.submitClaim_eqp (s : State) : s.submitClaim.eqp = s.eqp := by
  unfold State.submitClaim
  split
  · rfl
  · exact s.submit_eqp _ _ _ (by simp [Payload.kind])

@[simp] theorem State.beginClaim_eqp (k : Nat) (s : State) : (s.beginClaim k).eqp = s.eqp := by
  simp [State.beginClaim]

@[simp] theorem State.refuseCandidate_enables (s : State) : s.refuseCandidate.eqp.enables = s.eqp.enables := by
  simp only [State.refuseCandidate]
  split_ifs <;> simp

@[simp] theorem State.winNumber_eqp (k : Nat) (s : State) : (s.winNumber k).eqp = s.eqp := by
  simp [State.winNumber]

@[simp] theorem State.numberConflict_enables (kd : Kind) (s : State) :
    (s.numberConflict kd).eqp.enables = s.eqp.enables := by
  simp [State.numberConflict]

@[simp] theorem State.claimDone_enables (b : Bool) (s : State) : (s.claimDone b).eqp.enables = s.eqp.enables := by
  unfold State.claimDone
  split
  · simp
  · split <;> simp

@[simp] theorem State.endPoll_enables (k : Nat) (c : PollCause) (b : Option StatusBody) (s : State) :
    (s.endPoll k c b).eqp.enables = s.eqp.enables := by
  simp [State.endPoll]

@[simp] theorem State.pollDone_enables (o : SentOutcome) (answered : StationSet) (s : State) :
    (s.pollDone o answered).eqp.enables = s.eqp.enables := by
  unfold State.pollDone
  split
  · split
    · simp
    · split <;> simp
  · rfl

@[simp] theorem State.timeoutPoll_enables (s : State) : s.timeoutPoll.eqp.enables = s.eqp.enables := by
  unfold State.timeoutPoll
  split
  · split <;> simp
  · rfl

@[simp] theorem State.recordAttention_enables (k : Nat) (r : Reason) (i : ItemId) (s : State) :
    (s.recordAttention k r i).eqp.enables = s.eqp.enables := by
  unfold State.recordAttention
  split
  · simp
  · split <;> simp

@[simp] theorem State.takeAttention_enables (w : Wire) (s : State) :
    (s.takeAttention w).eqp.enables = s.eqp.enables := by
  unfold State.takeAttention
  split <;> simp

/-! ### The Fire Scheduler (chapter 5) -/

@[simp] theorem State.releaseIfPrimed_enables (i : ItemId) (x : Element) (s : State) :
    (s.releaseIfPrimed i x).eqp.enables = s.eqp.enables := by
  unfold State.releaseIfPrimed
  split <;> simp

/-- An operation over an item's elements keeps the enables when that of each element does. -/
@[simp] theorem State.eachElement_enables {f : Element → State → State}
    (hf : ∀ x t, (f x t).eqp.enables = t.eqp.enables) (i : ItemId) (s : State) :
    (s.eachElement i f).eqp.enables = s.eqp.enables :=
  State.eachElement_keeps (fun t => t.eqp.enables) i f hf s

/-- An operation that places GO entries keeps the enables when the placing of each element does. -/
@[simp] theorem State.placeEach_enables {f : Element → State → State × Bool}
    (hf : ∀ x t, (f x t).1.eqp.enables = t.eqp.enables) (i : ItemId) (s : State) :
    (s.placeEach i f).eqp.enables = s.eqp.enables :=
  State.placeEach_keeps (fun t => t.eqp.enables) i f hf (fun r i t => by simp) s

@[simp] theorem State.overflow_enables (i : ItemId) (e : Nat) (s : State) :
    (s.overflow i e).eqp.enables = s.eqp.enables := by
  simp only [State.overflow]
  split <;> simp

@[simp] theorem State.placeEntries_enables (i : ItemId) (e : Nat) (prime : Option Count) (go due : Count)
    (st : ElementState) (s : State) : (s.placeEntries i e prime go due st).1.eqp.enables = s.eqp.enables := by
  unfold State.placeEntries
  dsimp only
  split_ifs <;> simp

@[simp] theorem State.placeUnprimed_enables (i : ItemId) (x : Element) (earliest due : Count) (s : State) :
    (s.placeUnprimed i x earliest due).1.eqp.enables = s.eqp.enables := by
  simp only [State.placeUnprimed]
  split <;> simp

@[simp] theorem State.placePrimed_enables (i : ItemId) (x : Element) (Q due : Count) (s : State) :
    (s.placePrimed i x Q due).1.eqp.enables = s.eqp.enables :=
  State.placeEntries_enables _ _ _ _ _ _ _

@[simp] theorem State.primeElement_enables (i : ItemId) (x : Element) (s : State) :
    (s.primeElement i x).eqp.enables = s.eqp.enables := by
  obtain ⟨_, h⟩ | ⟨_, _, h⟩ | ⟨_, _, h⟩ := s.primeElement_cases i x <;> simp [h]

@[simp] theorem State.scheduleElement_enables (i : ItemId) (S arrival : Count) (P : Nat) (retake : Bool) (x : Element)
    (s : State) : (s.scheduleElement i S arrival P retake x).1.eqp.enables = s.eqp.enables := by
  simp only [State.scheduleElement]
  split
  · split <;> simp
  · simp

@[simp] theorem State.rescheduleElement_enables (i : ItemId) (S : Count) (P : Nat) (x : Element) (s : State) :
    (s.rescheduleElement i S P x).1.eqp.enables = s.eqp.enables := by
  simp only [State.rescheduleElement]
  split
  · split <;> simp
  · rfl

@[simp] theorem State.reschedule_enables (i : Item) (s : State) : (s.reschedule i).eqp.enables = s.eqp.enables := by
  unfold State.reschedule
  split <;> simp

@[simp] theorem State.placeLoaded_enables (i : Item) (x : Element) (s : State) :
    (s.placeLoaded i x).1.eqp.enables = s.eqp.enables := by
  simp only [State.placeLoaded]
  split_ifs <;> simp

@[simp] theorem State.resumeElement_enables (i : ItemId) (x : Element) (s : State) :
    (s.resumeElement i x).1.eqp.enables = s.eqp.enables := by
  simp only [State.resumeElement]
  split
  · split <;> simp
  · rfl

@[simp] theorem State.holdElement_eqp (i : ItemId) (x : Element) (s : State) : (s.holdElement i x).eqp = s.eqp := by
  unfold State.holdElement
  split
  · rfl
  · split <;> simp

@[simp] theorem State.clearElement_enables (i : ItemId) (x : Element) (s : State) :
    (s.clearElement i x).eqp.enables = s.eqp.enables := by
  unfold State.clearElement
  split <;> simp

@[simp] theorem State.withdrawElement_enables (i : ItemId) (x : Element) (s : State) :
    (s.withdrawElement i x).eqp.enables = s.eqp.enables := by
  simp [State.withdrawElement]

@[simp] theorem State.driveLine_enables (n : Nat) (i : ItemId) (x : Element) (s : State) :
    (s.driveLine n i x).1.eqp.enables = s.eqp.enables := by
  obtain ⟨_, h⟩ | ⟨_, _, _, _, h⟩ | ⟨_, _, h⟩ := s.driveLine_cases n i x <;> simp [h]

@[simp] theorem State.fireGo_enables (i : ItemId) (e : Nat) (s : State) :
    (s.fireGo i e).eqp.enables = s.eqp.enables := by
  simp only [State.fireGo]
  split
  · rfl
  · split
    · simp
    · split <;> simp

@[simp] theorem State.firePrime_enables (i : ItemId) (e : Nat) (s : State) :
    (s.firePrime i e).eqp.enables = s.eqp.enables := by
  obtain ⟨_, h⟩ | ⟨_, _, _, h⟩ | ⟨_, _, _, h⟩ := s.firePrime_cases i e <;> simp [h]

@[simp] theorem State.executeHead_enables (s : State) : s.executeHead.eqp.enables = s.eqp.enables := by
  simp only [State.executeHead]
  split
  · rfl
  · split <;> simp

@[simp] theorem State.passEntries_enables (n : Nat) (s : State) : (s.passEntries n).eqp.enables = s.eqp.enables := by
  induction n generalizing s with
  | zero => rfl
  | succ n ih =>
    unfold State.passEntries
    split
    · simp [ih]
    · rfl

@[simp] theorem State.pass_enables (s : State) : s.pass.eqp.enables = s.eqp.enables :=
  s.passEntries_enables _

/-! ### The Timing Computer (R60, R72) -/

@[simp] theorem State.recompute_enables (s : State) : s.recompute.eqp.enables = s.eqp.enables := by
  simp only [State.recompute]
  split_ifs <;> simp

@[simp] theorem State.applyCue_enables (i : ItemId) (b : Byte) (s : State) :
    (s.applyCue i b).eqp.enables = s.eqp.enables := by
  unfold State.applyCue
  split
  · rfl
  · split <;> simp

/-! ### The Take Engine (chapter 2) -/

@[simp] theorem State.releaseElement_enables (i : ItemId) (x : Element) (s : State) :
    (s.releaseElement i x).eqp.enables = s.eqp.enables := by
  simp [State.releaseElement]

@[simp] theorem State.releaseStandby_enables (s : State) : s.releaseStandby.eqp.enables = s.eqp.enables := by
  unfold State.releaseStandby
  split <;> simp

@[simp] theorem State.releaseIfStandby_enables (i : ItemId) (s : State) :
    (s.releaseIfStandby i).eqp.enables = s.eqp.enables := by
  unfold State.releaseIfStandby
  split <;> simp

@[simp] theorem State.markSuperseded_eqp (p : PendingTake) (s : State) : (s.markSuperseded p).eqp = s.eqp := by
  unfold State.markSuperseded
  split <;> simp

@[simp] theorem State.placeTake_enables (p : PendingTake) (s : State) :
    (s.placeTake p).eqp.enables = s.eqp.enables := by
  obtain ⟨_, h⟩ | ⟨_, _, _, _, h⟩ | ⟨_, _, _, _, h⟩ | ⟨_, _, _, h⟩ := s.placeTake_cases p <;> simp [h]

@[simp] theorem State.discardTake_enables (c : SupersedeCause) (s : State) :
    (s.discardTake c).eqp.enables = s.eqp.enables := by
  obtain ⟨_, h⟩ | ⟨_, _, h⟩ := s.discardTake_cases c <;> simp [h]

@[simp] theorem State.tieTake_eqp (s : State) : s.tieTake.eqp = s.eqp := rfl

@[simp] theorem State.makeTake_enables (i : ItemId) (t : TakeTerms) (s : State) :
    (s.makeTake i t).1.eqp.enables = s.eqp.enables := by
  simp only [State.makeTake]
  split
  · dsimp only
    split <;> simp
  · simp

@[simp] theorem State.startTake_enables (i : ItemId) (o : Origin) (forced : Bool) (t : TakeTerms) (s : State) :
    (s.startTake i o forced t).1.eqp.enables = s.eqp.enables := by
  simp only [State.startTake]
  split
  · split <;> simp
  · split <;> simp

@[simp] theorem State.inputTake_enables (forced : Bool) (s : State) :
    (s.inputTake forced).eqp.enables = s.eqp.enables := by
  simp only [State.inputTake]
  split_ifs
  · simp
  · simp
  · simp
  · split
    · simp
    · split <;> simp

@[simp] theorem State.guardDecide_enables (r : SweepResult) (s : State) :
    (s.guardDecide r).eqp.enables = s.eqp.enables := by
  simp only [State.guardDecide]
  split
  · rfl
  · split_ifs
    case neg => split <;> simp
    all_goals simp

@[simp] theorem State.receiveTake_enables (w : Wire) (c : Count) (s : State) :
    (s.receiveTake w c).eqp.enables = s.eqp.enables := by
  simp [State.receiveTake]

@[simp] theorem State.replaceOwnTake_enables (i : ItemId) (d : Nat) (A : Count) (q : Byte) (s : State) :
    (s.replaceOwnTake i d A q).eqp.enables = s.eqp.enables := by
  simp [State.replaceOwnTake]

@[simp] theorem State.takeOffElement_enables (i : ItemId) (x : Element) (s : State) :
    (s.takeOffElement i x).eqp.enables = s.eqp.enables := by
  unfold State.takeOffElement
  split
  · split <;> simp
  · rfl

@[simp] theorem State.takeOutgoing_enables (p : PendingTake) (s : State) :
    (s.takeOutgoing p).eqp.enables = s.eqp.enables := by
  unfold State.takeOutgoing
  split
  · split <;> simp
  · rfl

@[simp] theorem State.takeOwn_enables (p : PendingTake) (x : Item) (s : State) :
    (s.takeOwn p x).eqp.enables = s.eqp.enables := by
  simp only [State.takeOwn]
  split <;> simp

@[simp] theorem State.takeIncoming_enables (p : PendingTake) (s : State) :
    (s.takeIncoming p).eqp.enables = s.eqp.enables := by
  unfold State.takeIncoming
  split <;> simp

@[simp] theorem State.takeDone_enables (p : PendingTake) (o : ItemId) (s : State) :
    (s.takeDone p o).eqp.enables = s.eqp.enables := by
  simp only [State.takeDone]
  split <;> simp

@[simp] theorem State.executeTake_enables (p : PendingTake) (s : State) :
    (s.executeTake p).eqp.enables = s.eqp.enables := by
  simp [State.executeTake, State.endOverride, State.clearLatch]

@[simp] theorem State.runTake_enables (s : State) : s.runTake.eqp.enables = s.eqp.enables := by
  unfold State.runTake
  split <;> simp

@[simp] theorem State.setStandby_enables (i : ItemId) (s : State) : (s.setStandby i).eqp.enables = s.eqp.enables := by
  simp [State.setStandby]

@[simp] theorem State.applyStandby_enables (i : ItemId) (k : Nat) (s : State) :
    (s.applyStandby i k).eqp.enables = s.eqp.enables := by
  simp only [State.applyStandby]
  split
  · split <;> simp
  · split
    · simp
    · simp
    · split <;> simp

@[simp] theorem State.clearOnAir_enables (s : State) : s.clearOnAir.eqp.enables = s.eqp.enables := by
  unfold State.clearOnAir
  split <;> simp

@[simp] theorem State.abandonGuarded_enables (s : State) : s.abandonGuarded.eqp.enables = s.eqp.enables := by
  unfold State.abandonGuarded
  split <;> simp

@[simp] theorem State.applyClear_enables (s : State) : s.applyClear.eqp.enables = s.eqp.enables := by
  simp [State.applyClear]

@[simp] theorem State.applyHold_enables (i : ItemId) (s : State) : (s.applyHold i).eqp.enables = s.eqp.enables := by
  unfold State.applyHold
  split
  · rfl
  · split <;> simp

@[simp] theorem State.applyResume_enables (i : ItemId) (s : State) :
    (s.applyResume i).eqp.enables = s.eqp.enables := by
  unfold State.applyResume
  split
  · rfl
  · split <;> simp

@[simp] theorem State.changeControl_enables (new : Control) (c : ControlCause) (k : Nat) (s : State) :
    (s.changeControl new c k).eqp.enables = s.eqp.enables := by
  simp [State.changeControl]

@[simp] theorem State.localRequest_enables (c : ControlCause) (s : State) :
    (s.localRequest c).eqp.enables = s.eqp.enables := by
  unfold State.localRequest
  split <;> simp

@[simp] theorem State.localRelease_enables (c : ControlCause) (s : State) :
    (s.localRelease c).eqp.enables = s.eqp.enables := by
  unfold State.localRelease
  split <;> simp

@[simp] theorem State.applyLockout_enables (k : Nat) (s : State) : (s.applyLockout k).eqp.enables = s.eqp.enables := by
  unfold State.applyLockout
  split <;> simp

@[simp] theorem State.applyRelease_enables (k : Nat) (s : State) : (s.applyRelease k).eqp.enables = s.eqp.enables := by
  unfold State.applyRelease
  split <;> simp

/-! ### The edits of the run list (chapter 1) -/

@[simp] theorem State.removeItem_enables (i : ItemId) (c : SupersedeCause) (s : State) :
    (s.removeItem i c).eqp.enables = s.eqp.enables := by
  simp only [State.removeItem]
  split_ifs <;> simp

@[simp] theorem State.floatItem_enables (i : Item) (s : State) : (s.floatItem i).1.eqp.enables = s.eqp.enables := by
  unfold State.floatItem
  split <;> simp

@[simp] theorem State.restoreItem_eqp (i : Item) (s : State) : (s.restoreItem i).1.eqp = s.eqp := by
  unfold State.restoreItem
  split <;> simp

@[simp] theorem State.stretchPending_eqp (i : ItemId) (d : Int) (s : State) : (s.stretchPending i d).eqp = s.eqp := by
  unfold State.stretchPending
  split
  · split <;> simp
  · rfl

@[simp] theorem State.setDuration_enables (i : Item) (d : Nat) (s : State) :
    (s.setDuration i d).eqp.enables = s.eqp.enables := by
  simp only [State.setDuration]
  split <;> simp

@[simp] theorem State.stretchListed_enables (i : ItemId) (d : Int) (s : State) :
    (s.stretchListed i d).1.eqp.enables = s.eqp.enables := by
  simp only [State.stretchListed]
  split
  · split <;> simp
  · split
    · split <;> simp
    · rfl

@[simp] theorem State.stretch_enables (i : ItemId) (d : Int) (s : State) :
    (s.stretch i d).1.eqp.enables = s.eqp.enables := by
  simp only [State.stretch]
  split
  · split <;> simp
  · simp

@[simp] theorem State.editEffect_enables (e : LineEdit) (i : ItemId) (s : State) :
    (s.editEffect e i).1.eqp.enables = s.eqp.enables := by
  cases e with
  | stretch d => exact s.stretch_enables i d
  | drop =>
    simp only [State.editEffect]
    split
    · rfl
    · split <;> simp
  | float =>
    simp only [State.editEffect]
    split
    · rfl
    · split <;> simp
  | restore =>
    simp only [State.editEffect]
    split <;> simp

@[simp] theorem State.applyEdit_enables (e : LineEdit) (k : Nat) (i : ItemId) (s : State) :
    (s.applyEdit e k i).eqp.enables = s.eqp.enables := by
  simp only [State.applyEdit]
  split <;> simp

/-! ### The frame pulse (chapter 3) -/

@[simp] theorem State.applyTime_enables (s : State) : s.applyTime.eqp.enables = s.eqp.enables := by
  simp only [State.applyTime]
  split
  · rfl
  · split <;> simp

@[simp] theorem State.handOff_enables (h : HandOff) (s : State) : (s.handOff h).eqp.enables = s.eqp.enables := by
  cases h with
  | take => exact s.inputTake_enables false
  | force => exact s.inputTake_enables true
  | localOn => exact s.localRequest_enables _
  | localOff => exact s.localRelease_enables _

@[simp] theorem State.resubmitClaim_eqp (s : State) : s.resubmitClaim.eqp = s.eqp := by
  unfold State.resubmitClaim
  split <;> simp

@[simp] theorem State.runPart_enables (p : PulsePart) (s : State) : (s.runPart p).eqp.enables = s.eqp.enables := by
  cases p with
  | timeApplied =>
    simp only [State.runPart]
    split <;> rfl
  | handOff h => exact s.handOff_enables h
  | pulseEnds => rfl
  | holdEnds => rfl
  | take => exact s.runTake_enables
  | entries n => exact s.passEntries_enables n
  | pass => exact s.pass_enables
  | pollTimeout => exact s.timeoutPoll_enables
  | claimResubmit => exact congrArg EquipmentPort.enables s.resubmitClaim_eqp
  | recompute => exact s.recompute_enables

@[simp] theorem State.runParts_enables (l : List PulsePart) (s : State) :
    (s.runParts l).eqp.enables = s.eqp.enables :=
  State.foldl_enables (fun t p => t.runPart_enables p) l s

@[simp] theorem State.settle_enables (s : State) : s.settle.eqp.enables = s.eqp.enables :=
  s.runParts_enables _

@[simp] theorem State.advanceOver_enables (l : List PulsePart) (s : State) :
    (s.advanceOver l).eqp.enables = s.eqp.enables := by
  induction l generalizing s with
  | nil => rfl
  | cons p l ih =>
    unfold State.advanceOver
    split_ifs <;> simp [ih]

@[simp] theorem State.advance_enables (s : State) : s.advance.eqp.enables = s.eqp.enables :=
  s.advanceOver_enables _

@[simp] theorem State.countPulse_enables (p : Pulse) (s : State) : (s.countPulse p).eqp.enables = s.eqp.enables := by
  simp [State.countPulse, State.sampleInputs, State.advanceCount]

@[simp] theorem State.setLossTimer_eqp (n : Nat) (s : State) : (s.setLossTimer n).eqp = s.eqp := rfl

@[simp] theorem State.finishPulse_enables (p : Pulse) (s : State) :
    (s.finishPulse p).eqp.enables = s.eqp.enables := by
  unfold State.finishPulse
  split <;> simp

@[simp] theorem State.refReturned_enables (s : State) : s.refReturned.eqp.enables = s.eqp.enables := by
  simp [State.refReturned]

theorem State.runTo_enables {sel : PulsePart → Bool} {s t : State} (h : s.runTo sel = some t) :
    t.eqp.enables = s.eqp.enables := by
  simp only [State.runTo] at h
  split at h
  · cases h
  · cases h
    simp

@[simp] theorem State.commandPart_enables (p : PulsePart) (s : State) :
    (s.commandPart p).eqp.enables = s.eqp.enables := by
  unfold State.commandPart
  split
  · rfl
  · rename_i h
    split
    · rfl
    · simp [State.runTo_enables h]

@[simp] theorem State.commandEntry_enables (a : Action) (s : State) :
    (s.commandEntry a).eqp.enables = s.eqp.enables := by
  unfold State.commandEntry
  split
  · rfl
  · rename_i h
    split
    · simp [State.runTo_enables h]
    · rfl

@[simp] theorem State.commandLine_enables (p : PulsePart) (f : Count → FireLine → FireLine) (n : Nat) (s : State) :
    (s.commandLine p f n).eqp.enables = s.eqp.enables := by
  unfold State.commandLine
  split
  · rfl
  · rename_i h
    dsimp only
    split
    · rfl
    · simp [State.runTo_enables h]

/-! ### The Line Engine (chapter 6) -/

@[simp] theorem State.lineBit_enables (b : Bool) (s : State) : (s.lineBit b).eqp.enables = s.eqp.enables := by
  obtain ⟨_, h⟩ | ⟨_, h⟩ := s.lineBit_cases b <;> simp [h]

@[simp] theorem State.lineBits_enables (bits : List Bool) (s : State) :
    (s.lineBits bits).eqp.enables = s.eqp.enables :=
  State.foldl_enables (fun t b => t.lineBit_enables b) bits s

@[simp] theorem State.toFrame_enables (s : State) : s.toFrame.eqp.enables = s.eqp.enables := by
  unfold State.toFrame
  split <;> simp

@[simp] theorem State.startAttempt_eqp (q : QueueName) (e : QueueEntry) (byRing : Bool) (s : State) :
    (s.startAttempt q e byRing).eqp = s.eqp := by
  simp only [State.startAttempt, State.moveRing]
  split <;> simp

@[simp] theorem State.dropCurrent_eqp (q : QueueName) (claim : Bool) (s : State) :
    (s.dropCurrent q claim).eqp = s.eqp := rfl

@[simp] theorem State.modCurrent_eqp (q : QueueName) (claim : Bool) (f : QueueEntry → QueueEntry) (s : State) :
    (s.modCurrent q claim f).eqp = s.eqp := rfl

@[simp] theorem State.removeClaim_eqp (s : State) : s.removeClaim.eqp = s.eqp := rfl

@[simp] theorem State.stopDriving_eqp (s : State) : s.stopDriving.eqp = s.eqp := rfl

@[simp] theorem State.reportResult_enables (e : QueueEntry) (f : Flight) (complete : Bool) (s : State) :
    (s.reportResult e f complete).eqp.enables = s.eqp.enables := by
  simp only [State.reportResult, State.missPeers_enables]
  split <;> simp

@[simp] theorem State.sweepDone_enables (i : ItemId) (o : SentOutcome) (expected ready : StationSet) (s : State) :
    (s.sweepDone i o expected ready).eqp.enables = s.eqp.enables := by
  simp [State.sweepDone]

@[simp] theorem State.reportSent_enables (e : QueueEntry) (f : Flight) (o : SentOutcome) (answered : StationSet)
    (s : State) : (s.reportSent e f o answered).eqp.enables = s.eqp.enables := by
  have hflag : (if o = .dropped then s.raise .sendIncomplete else s).eqp.enables = s.eqp.enables := by
    split <;> simp
  unfold State.reportSent
  generalize (if o = .dropped then s.raise .sendIncomplete else s) = u at hflag ⊢
  cases e.payload with
  | sweep i => exact (u.sweepDone_enables i o _ _).trans hflag
  | poll => exact (u.pollDone_enables o answered).trans hflag
  | claim k _ _ => exact (u.claimDone_enables _).trans hflag
  | _ => exact hflag

@[simp] theorem State.replaceIfSuperseded_enables (e : QueueEntry) (s : State) :
    (s.replaceIfSuperseded e).eqp.enables = s.eqp.enables := by
  unfold State.replaceIfSuperseded
  split
  · split <;> simp
  · rfl

@[simp] theorem State.endAttempt_enables (q : QueueName) (e : QueueEntry) (answered : StationSet) (s : State) :
    (s.endAttempt q e answered).eqp.enables = s.eqp.enables := by
  simp only [State.endAttempt]
  split
  · rfl
  · split_ifs <;> simp

@[simp] theorem State.endCollided_enables (q : QueueName) (e : QueueEntry) (s : State) :
    (s.endCollided q e).eqp.enables = s.eqp.enables := by
  simp only [State.endCollided]
  split
  · rfl
  · split_ifs <;> simp

@[simp] theorem State.collide_enables (s : State) : s.collide.eqp.enables = s.eqp.enables := by
  unfold State.collide
  split <;> simp

/-! ### A received frame (R106, R111 to R113) -/

/-- An accepted frame keeps the enables when its effect does. -/
theorem State.handFrame_enables {effect : State → State}
    (he : ∀ t, (effect t).eqp.enables = t.eqp.enables) (kd : Kind) (w : Wire) (s : State) :
    (s.handFrame kd w effect).eqp.enables = s.eqp.enables := by
  unfold State.handFrame
  split_ifs <;> simp [he, State.noteSequence]

theorem State.decideFrame_enables {effect : State → State}
    (he : ∀ t, (effect t).eqp.enables = t.eqp.enables) (kd : Kind) (w : Wire) (s : State) :
    (s.decideFrame kd w effect).1.eqp.enables = s.eqp.enables := by
  obtain ⟨_, h⟩ | ⟨_, _, h⟩ | ⟨_, _, h⟩ := s.decideFrame_cases kd w effect <;>
    simp [h, State.handFrame_enables he]

@[simp] theorem State.endRollCall_enables (kd : Kind) (f : RxFrame) (answered : StationSet) (s : State) :
    (s.endRollCall kd f answered).eqp.enables = s.eqp.enables := by
  simp only [State.endRollCall]
  split <;> simp

/-- A received frame keeps the enables when its effect does. -/
theorem State.receive_enables {effect : State → State}
    (he : ∀ t, (effect t).eqp.enables = t.eqp.enables) (kd : Kind) (f : RxFrame) (s : State) :
    (s.receive kd f effect).eqp.enables = s.eqp.enables := by
  unfold State.receive
  split
  · exact (State.endRollCall_enables _ _ _ _).trans ((State.decideFrame_enables he _ _ _).trans s.toFrame_enables)
  · rfl

end Sys2Proof.Machine
end

section
/-! PROOFS. Of all commands, SET GROUP ENABLES and those that begin or end a restart alone write the group enables (R176):
the replies of the requests, and then the commands one by one. -/

namespace Sys2Proof.Machine

/-! ### What the replies of the requests leave (R169) -/

@[simp] theorem State.refuse_state (s : State) (r : Result) : (s.refuse r).state = s := rfl

@[simp] theorem State.done_state (s : State) (l : List Byte) : (s.done l).state = s := rfl

@[simp] theorem State.edited_enables (s : State) (l : List Byte) :
    (s.edited l).state.eqp.enables = s.eqp.enables :=
  s.recompute_enables

theorem State.loadItem_enables (i : ItemId) (d h : BitVec 24) (b : Byte) (a : ItemId) (s : State) :
    (s.loadItem i d h b a).state.eqp.enables = s.eqp.enables := by
  simp only [State.loadItem]
  split_ifs <;> simp

theorem State.amendItem_enables (i : ItemId) (d : BitVec 24) (a : Byte) (h : BitVec 24) (b : Byte) (s : State) :
    (s.amendItem i d a h b).state.eqp.enables = s.eqp.enables := by
  simp only [State.amendItem]
  split
  · rfl
  · split
    · rfl
    · rw [State.edited_enables]
      split <;> simp

theorem State.moveItem_enables (i a : ItemId) (s : State) :
    (s.moveItem i a).state.eqp.enables = s.eqp.enables := by
  unfold State.moveItem
  split
  · rfl
  · split
    · rfl
    · split <;> simp

theorem State.deleteItem_enables (i : ItemId) (s : State) :
    (s.deleteItem i).state.eqp.enables = s.eqp.enables := by
  unfold State.deleteItem
  split
  · rfl
  · split
    · rfl
    · split <;> simp

theorem State.floatEdit_enables (i : ItemId) (s : State) :
    (s.floatEdit i).state.eqp.enables = s.eqp.enables := by
  unfold State.floatEdit
  split
  · rfl
  · split
    · rfl
    · split <;> simp

theorem State.restoreEdit_enables (i : ItemId) (s : State) :
    (s.restoreEdit i).state.eqp.enables = s.eqp.enables := by
  unfold State.restoreEdit
  split
  · rfl
  · split <;> simp

@[simp] theorem State.dropEntries_enables (i : ItemId) (x : Element) (s : State) :
    (s.dropEntries i x).eqp.enables = s.eqp.enables := by
  simp [State.dropEntries]

@[simp] theorem State.writeElement_enables (i : Item) (x : Element) (s : State) :
    (s.writeElement i x).eqp.enables = s.eqp.enables := by
  simp only [State.writeElement]
  split <;> simp

@[simp] theorem State.placeByState_enables (i : Item) (x : Element) (s : State) :
    (s.placeByState i x).eqp.enables = s.eqp.enables := by
  simp only [State.placeByState]
  split
  · split <;> simp
  · split <;> simp
  · rfl

theorem State.loadElement_enables (i : ItemId) (e a : Byte) (o : BitVec 16) (p n g : Byte) (d : BitVec 16) (t : Byte)
    (s : State) : (s.loadElement i e a o p n g d t).state.eqp.enables = s.eqp.enables := by
  simp only [State.loadElement]
  split
  · rfl
  · split
    · rfl
    · split <;> simp

theorem State.deleteElement_enables (i : ItemId) (e : Byte) (s : State) :
    (s.deleteElement i e).state.eqp.enables = s.eqp.enables := by
  unfold State.deleteElement
  split
  · rfl
  · split
    · rfl
    · split <;> simp

theorem State.setReady_enables (i : ItemId) (e v : Byte) (s : State) :
    (s.setReady i e v).state.eqp.enables = s.eqp.enables := by
  unfold State.setReady
  split
  · rfl
  · split
    · rfl
    · split <;> simp

@[simp] theorem State.sendEffect_enables (a : Address) (p : Payload) (s : State) :
    (s.sendEffect a p).eqp.enables = s.eqp.enables := by
  cases p with
  | cue i c =>
    simp only [State.sendEffect]
    split <;> simp
  | _ => simp [State.sendEffect]

@[simp] theorem State.sendTake_enables (a : Address) (forced : Bool) (b : List Byte) (s : State) :
    (s.sendTake a forced b).state.eqp.enables = s.eqp.enables := by
  simp only [State.sendTake]
  split
  · simp
  · split <;> simp

@[simp] theorem State.sendFrame_enables (a : Address) (p : Payload) (s : State) :
    (s.sendFrame a p).state.eqp.enables = s.eqp.enables := by
  simp only [State.sendFrame]
  split
  · rfl
  · split <;> simp

theorem State.sendRequest_enables (k m a f : Byte) (b : List Byte) (s : State) :
    (s.sendRequest k m a f b).state.eqp.enables = s.eqp.enables := by
  unfold State.sendRequest
  split
  · rfl
  · split_ifs <;> simp

theorem State.takeNextRequest_enables (f : Byte) (s : State) :
    (s.takeNextRequest f).state.eqp.enables = s.eqp.enables := by
  simp only [State.takeNextRequest]
  split_ifs
  · rfl
  · rfl
  · simp
  · split
    · rfl
    · split <;> simp

theorem State.standbyNextRequest_enables (s : State) :
    s.standbyNextRequest.state.eqp.enables = s.eqp.enables := by
  simp only [State.standbyNextRequest]
  split
  · rfl
  · split
    · rfl
    · split <;> simp

theorem State.setControlRequest_enables (v : Byte) (s : State) :
    (s.setControlRequest v).state.eqp.enables = s.eqp.enables := by
  unfold State.setControlRequest
  split_ifs <;> simp

theorem State.setTimeRequest_enables (t : Nat) (s : State) : (s.setTimeRequest t).eqp.enables = s.eqp.enables := by
  unfold State.setTimeRequest
  split
  · rfl
  · exact State.request_enables rfl _

theorem State.callRequest_enables (i : ItemId) (s : State) :
    (s.callRequest i).state.eqp.enables = s.eqp.enables := by
  simp only [State.callRequest]
  split_ifs <;> simp

theorem State.readItemRequest_enables (c : Byte) (v : BitVec 16) (s : State) :
    (s.readItemRequest c v).state.eqp.enables = s.eqp.enables := by
  unfold State.readItemRequest
  split
  · split
    · rfl
    · split <;> rfl
  · split
    · split
      · rfl
      · split <;> rfl
    · rfl

theorem State.readTimingRequest_enables (k : Byte) (s : State) :
    (s.readTimingRequest k).state.eqp.enables = s.eqp.enables := by
  simp only [State.readTimingRequest]
  split <;> simp

theorem State.ackAttentionRequest_enables (k r : Byte) (s : State) :
    (s.ackAttentionRequest k r).state.eqp.enables = s.eqp.enables := by
  unfold State.ackAttentionRequest
  split
  · rfl
  · split
    · rfl
    · split
      · rfl
      · split <;> rfl

theorem State.fetchEventsRequest_enables (n : Byte) (s : State) :
    (s.fetchEventsRequest n).state.eqp.enables = s.eqp.enables := by
  unfold State.fetchEventsRequest
  split <;> rfl

theorem State.ackFlagsRequest_enables (f : BitVec 24) (s : State) :
    (s.ackFlagsRequest f).state.eqp.enables = s.eqp.enables := by
  simp only [State.ackFlagsRequest]
  split <;> simp

/-! ### Every command but those that write the enables -/

/-- The commands that write the enables: SET GROUP ENABLES, and those that begin or end a restart. -/
def writesEnables : Instr → Bool
  | .setGroupEnables _ | .powerOn _ | .resetActive | .restartRequest _ | .restartEnd _ => true
  | _ => false

theorem writesEnables_eq_false {c : Instr} (hset : ∀ v, c ≠ .setGroupEnables v) (hpower : ∀ b, c ≠ .powerOn b)
    (hreset : c ≠ .resetActive) (hrequest : ∀ k, c ≠ .restartRequest k) (hend : ∀ image, c ≠ .restartEnd image) :
    writesEnables c = false := by
  unfold writesEnables
  split
  · exact absurd rfl (hset _)
  · exact absurd rfl (hpower _)
  · exact absurd rfl hreset
  · exact absurd rfl (hrequest _)
  · exact absurd rfl (hend _)
  · rfl

/-- A command's outcome, when it is a next state, has the enables of `s`. -/
def State.enablesKeptBy (s : State) (o : Host.Outcome State Fault Refusal) : Prop :=
  ∀ t, o = .next t → t.eqp.enables = s.eqp.enables

theorem State.enablesKeptBy.next {s u : State} (h : u.eqp.enables = s.eqp.enables) : s.enablesKeptBy (.next u) := by
  rintro _ ⟨⟩
  exact h

theorem State.enablesKeptBy.request {f : State → Reply} {s : State} (h : (f s).state.eqp.enables = s.eqp.enables)
    (code : Byte) : s.enablesKeptBy (.next (s.request code f)) :=
  .next (State.request_enables h code)

theorem State.enablesKeptBy.receive {effect : State → State} (h : ∀ t, (effect t).eqp.enables = t.eqp.enables)
    (kd : Kind) (f : RxFrame) (s : State) : s.enablesKeptBy (.next (s.receive kd f effect)) :=
  .next (State.receive_enables h kd f s)

/-- A command that acts under a condition keeps the enables when its act does. -/
theorem State.enablesKeptBy.nextIf {c : Prop} [Decidable c] {s u v : State} (hu : u.eqp.enables = s.eqp.enables)
    (hv : v.eqp.enables = s.eqp.enables) : s.enablesKeptBy (.next (if c then u else v)) :=
  .next (by split; exacts [hu, hv])

theorem execSendOpportunity_keepsEnables (s : State) : s.enablesKeptBy (execSendOpportunity s) := by
  refine .nextIf ?_ rfl
  split <;> simp

theorem execContentionLost_keepsEnables (bits : List Bool) (s : State) :
    s.enablesKeptBy (execContentionLost bits s) := by
  refine .nextIf ?_ rfl
  split
  · rfl
  · rfl
  · simp
  · simp

theorem execAttemptSent_keepsEnables (slots : StationSet) (s : State) :
    s.enablesKeptBy (execAttemptSent slots s) := by
  refine .nextIf ?_ rfl
  split <;> simp

theorem execRefBack_keepsEnables (us : Nat) (p : Pulse) (s : State) : s.enablesKeptBy (execRefBack us p s) := by
  refine .nextIf ?_ rfl
  split <;> simp

theorem execEndFieldDominantBit_keepsEnables (s : State) : s.enablesKeptBy (execEndFieldDominantBit s) := by
  refine .next ?_
  split <;> simp

/-- R176: each command but those that write the enables keeps them. -/
theorem exec_keepsEnables {c : Instr} (hc : writesEnables c = false) (s : State) : s.enablesKeptBy (exec c s) := by
  cases c with
  | powerOn | resetActive | restartEnd | restartRequest | setGroupEnables => cases hc
  | framePulse p => exact .nextIf (by simp) rfl
  | refLost p => exact .nextIf (by simp) rfl
  | internalPulse p => exact .nextIf (by simp) rfl
  | refBack us p => exact execRefBack_keepsEnables us p s
  | setTimeApplied => exact .next (s.commandPart_enables _)
  | takeExecution => exact .next (s.commandPart_enables _)
  | primeExecution => exact .next (s.commandEntry_enables _)
  | goExecution => exact .next (s.commandEntry_enables _)
  | pulseEnd n => exact .next (s.commandLine_enables _ _ n)
  | levelHoldEnd n => exact .next (s.commandLine_enables _ _ n)
  | pollTimeout => exact .next (s.commandPart_enables _)
  | claimResubmit => exact .next (s.commandPart_enables _)
  | lineIdle bits => exact .nextIf (s.lineBits_enables _) rfl
  | lineStuck bits => exact .nextIf (s.lineBits_enables _) rfl
  | sendOpportunity => exact execSendOpportunity_keepsEnables s
  | contentionLost bits => exact execContentionLost_keepsEnables bits s
  | collision => exact .nextIf s.collide_enables rfl
  | attemptSent slots => exact execAttemptSent_keepsEnables slots s
  | frameNotHeard f => exact .nextIf s.toFrame_enables rfl
  | takeFrame f => exact .receive (fun t => t.receiveTake_enables _ _) _ f s
  | clearFrame f => exact .receive State.applyClear_enables _ f s
  | standbyFrame f => exact .receive (State.applyStandby_enables _ _) _ f s
  | holdFrame f => exact .receive (State.applyHold_enables _) _ f s
  | resumeFrame f => exact .receive (State.applyResume_enables _) _ f s
  | stretchFrame f => exact .receive (State.applyEdit_enables _ _ _) _ f s
  | cueFrame f => exact .receive (State.applyCue_enables _ _) _ f s
  | sweepFrame f => exact .receive (fun _ => rfl) _ f s
  | attentionFrame f => exact .receive (State.takeAttention_enables _) _ f s
  | dropFrame f => exact .receive (State.applyEdit_enables _ _ _) _ f s
  | floatFrame f => exact .receive (State.applyEdit_enables _ _ _) _ f s
  | restoreFrame f => exact .receive (State.applyEdit_enables _ _ _) _ f s
  | pollFrame f => exact .receive (State.submit_enables _ _ _) _ f s
  | statusFrame f => exact .receive (State.endPoll_enables _ _ _) _ f s
  | lockoutFrame f => exact .receive (State.applyLockout_enables _) _ f s
  | releaseFrame f => exact .receive (State.applyRelease_enables _) _ f s
  | announceFrame f => exact .receive (fun _ => rfl) _ f s
  | claimFrame f => exact .receive (fun _ => rfl) _ f s
  | portRead n => exact .next (s.eqp.read_enables n)
  | badRequestFrame b => exact .nextIf (State.request_enables rfl _) rfl
  | loadItem i d h b a => exact .request (s.loadItem_enables i d h b a) _
  | amendItem i d a h b => exact .request (s.amendItem_enables i d a h b) _
  | moveItem i a => exact .request (s.moveItem_enables i a) _
  | deleteItem i => exact .request (s.deleteItem_enables i) _
  | loadElement i e a o p n g d t => exact .request (s.loadElement_enables i e a o p n g d t) _
  | deleteElement i e => exact .request (s.deleteElement_enables i e) _
  | setReady i e v => exact .request (s.setReady_enables i e v) _
  | floatRequest i => exact .request (s.floatEdit_enables i) _
  | restoreRequest i => exact .request (s.restoreEdit_enables i) _
  | send k m a f b => exact .request (s.sendRequest_enables k m a f b) _
  | takeNext f => exact .request (s.takeNextRequest_enables f) _
  | standbyNext => exact .request s.standbyNextRequest_enables _
  | setControl v => exact .request (s.setControlRequest_enables v) _
  | setTime v => exact .next (s.setTimeRequest_enables _)
  | call i => exact .request (s.callRequest_enables i) _
  | readItem c v => exact .request (s.readItemRequest_enables c v) _
  | readTiming k => exact .request (s.readTimingRequest_enables k) _
  | readPeers | readSweep | readPoll | readAttention | readRestart => exact .request rfl _
  | ackAttention k r => exact .request (s.ackAttentionRequest_enables k r) _
  | fetchEvents n => exact .request (s.fetchEventsRequest_enables n) _
  | fetchSummary => exact .request rfl _
  | ackFlags f => exact .request (s.ackFlagsRequest_enables f) _
  | endFieldDominantBit => exact execEndFieldDominantBit_keepsEnables s

end Sys2Proof.Machine
end

section
/-! PROOFS. FETCH SUMMARY, ACK FLAGS and SET GROUP ENABLES (R176 to R178). -/

namespace Sys2Proof.Machine

/-! ### FETCH SUMMARY and ACK FLAGS -/

/-- What a FETCH SUMMARY leaves in the port before its response: no group set, so ATN down, and no overruns (R177). -/
def EquipmentPort.summarised (e : EquipmentPort) : EquipmentPort :=
  { e with groups := 0, overruns := 0 }.driveAtn

theorem State.fetchSummary_taken {s : State} (h : s.portReady) :
    exec .fetchSummary s = .next (s.setEqp (s.eqp.summarised.offer 0x18 .done s.eqp.summary)) :=
  congrArg Host.Outcome.next (State.request_done (t := s.setEqp s.eqp.summarised) h rfl)

theorem EquipmentPort.summarised_atn (e : EquipmentPort) : e.summarised.atn = false := by
  simp [EquipmentPort.summarised, EquipmentPort.driveAtn, atnOf]

/-- An acknowledged flag sets its group when it is raised again (R174). -/
theorem EquipmentPort.raise_group_of_lowered (f : SourceFlag) (e : EquipmentPort) :
    ((e.lower f).raise f).groups.getLsbD f.group.bit = true := by
  simp [EquipmentPort.raise_group, EquipmentPort.lower_flag]

theorem State.ackFlags_refused {s : State} (h : s.portReady) {v : BitVec 24} (hv : 2 ^ 18 ≤ v.toNat) :
    exec (.ackFlags v) s = .next (s.setEqp (s.eqp.offer 0x19 .badField [])) :=
  congrArg Host.Outcome.next (State.request_refuse h (if_pos hv) (by decide))

theorem State.ackFlags_taken {s : State} (h : s.portReady) {v : BitVec 24} (hv : v.toNat < 2 ^ 18) :
    let e := s.eqp.ack (v.setWidth 18)
    exec (.ackFlags v) s =
      .next (s.setEqp (e.offer 0x19 .done (flagBytes e.flags ++ [groupByte e.groups] ++ beBool e.atn))) :=
  congrArg Host.Outcome.next
    (State.request_done (t := s.setEqp (s.eqp.ack (v.setWidth 18))) h (if_neg (by omega)))

/-- A flag's bit of the field named in a request is that of its eighteen bits. -/
theorem SourceFlag.getLsbD_setWidth (f : SourceFlag) (v : BitVec 24) :
    (v.setWidth 18).getLsbD f.bit = v.getLsbD f.bit := by
  simp [f.bit_lt]

/-- Settles O50: the summary clears groups and overruns alone; an acknowledgement clears the flags named, and raises EVENTS
again over the records held. -/
theorem summaryAndAcknowledgement : Obligations.SummaryAndAcknowledgement := by
  refine ⟨fun s h => ?_, fun v s h => ?_⟩
  · refine ⟨_, State.fetchSummary_taken h, rfl, State.offers_offer _ _ _ (s.setEqp s.eqp.summarised), rfl, rfl,
      s.eqp.summarised_atn, rfl, rfl, rfl, rfl, fun f => ⟨fun hf => ?_, EquipmentPort.raise_group_of_lowered f _⟩⟩
    exact congrArg EquipmentPort.groups
      (EquipmentPort.raise_of_set (e := s.eqp.summarised.offer 0x18 .done s.eqp.summary) hf)
  · by_cases hv : 2 ^ 18 ≤ v.toNat
    · exact ⟨_, State.ackFlags_refused h hv, rfl, fun _ => ⟨State.offers_offer _ _ _ s, rfl, rfl⟩,
        fun hlt => absurd hv (Nat.not_le.2 hlt)⟩
    · refine ⟨_, State.ackFlags_taken h (Nat.not_le.1 hv), rfl, fun hge => absurd hge hv, fun _ => ?_⟩
      simp only [← SourceFlag.getLsbD_setWidth]
      exact ⟨State.offers_offer _ _ _ (s.setEqp (s.eqp.ack (v.setWidth 18))),
        fun f hf => s.eqp.ack_flag hf _, s.eqp.ack_events _, s.eqp.ack_overflows _, s.eqp.ack_fifo _,
        s.eqp.ack_enables _, s.eqp.ack_overruns _, EquipmentPort.ack_groups, EquipmentPort.ack_group_of_events⟩

/-! ### SET GROUP ENABLES, and the end of a restart -/

theorem State.setGroupEnables_refused {s : State} (h : s.portReady) {v : Byte} (hv : 32 ≤ v.toNat) :
    exec (.setGroupEnables v) s = .next (s.setEqp (s.eqp.offer 0x1A .badField [])) :=
  congrArg Host.Outcome.next (State.request_refuse h (if_pos hv) (by decide))

/-- A field within the five groups is written whole, and comes back as it was sent (R176, R190). -/
theorem State.setGroupEnables_taken {s : State} (h : s.portReady) {v : Byte} (hv : v.toNat < 32) :
    let e := { s.eqp with enables := v.setWidth 5 }.driveAtn
    exec (.setGroupEnables v) s = .next (s.setEqp (e.offer 0x1A .done ([v] ++ beBool e.atn))) := by
  have hback : groupByte (v.setWidth 5) = v := by
    unfold groupByte
    bv_omega
  have hreply : State.setEnablesRequest v s = (s.setEqp { s.eqp with enables := v.setWidth 5 }.driveAtn).done
      ([v] ++ beBool { s.eqp with enables := v.setWidth 5 }.driveAtn.atn) := by
    rw [State.setEnablesRequest, if_neg (Nat.not_le.2 hv)]
    simp only [EquipmentPort.driveAtn, hback]
  exact congrArg Host.Outcome.next (State.request_done h hreply)

/-- A group's bit of the field sent is that of its five bits. -/
theorem Group.getLsbD_setWidth (g : Group) (v : Byte) : (v.setWidth 5).getLsbD g.bit = v.getLsbD g.bit := by
  simp [g.bit_lt]

theorem State.openPort_enables (s : State) : s.openPort.eqp.enables = s.values.groupEnables := by
  simp [State.openPort, EquipmentPort.fresh]

theorem State.beginClaim_sul (k : Nat) (s : State) : (s.beginClaim k).sul = s.sul := by
  unfold State.beginClaim State.submitClaim
  dsimp only
  split <;> simp

/-- The start mode writes neither the port nor the Start-up Loader (R186). -/
theorem State.enterMode_eqp_sul (k : StartKind) (m : Mode) (s : State) :
    (s.enterMode k m).eqp = s.eqp ∧ (s.enterMode k m).sul = s.sul := by
  unfold State.enterMode
  split
  · exact ⟨rfl, rfl⟩
  · exact ⟨s.beginClaim_eqp _, s.beginClaim_sul _⟩

/-- R186: the port opens with the enables of the image. -/
theorem State.endRestart_enables {s : State} {k : StartKind} (h : s.sul.phase = .restarting k) (image : List Byte) :
    (s.endRestart image).eqp.enables = (s.endRestart image).sul.values.groupEnables := by
  simp only [State.endRestart, h]
  generalize readImage image = r
  obtain ⟨heqp, hsul⟩ := (s.handOn k r).openPort.enterMode_eqp_sul k r.startMode
  rw [heqp, hsul]
  exact (s.handOn k r).openPort_enables

/-- Settles O51: the request's own cases; of the other commands none but a restart's writes the enables, and the end of a
restart opens the port with those of the image. -/
theorem setGroupEnables : Obligations.SetGroupEnables := by
  refine ⟨fun v s h => ?_, fun c s t hexec hset hpower hreset hrequest hend => ?_, fun image s k h => ?_⟩
  · by_cases hv : 32 ≤ v.toNat
    · exact ⟨_, State.setGroupEnables_refused h hv, rfl, rfl, rfl, fun _ => ⟨State.offers_offer _ _ _ s, rfl⟩,
        fun hlt => absurd hv (Nat.not_le.2 hlt)⟩
    · refine ⟨_, State.setGroupEnables_taken h (Nat.not_le.1 hv), rfl, rfl, rfl, fun hge => absurd hge hv, fun _ =>
        ⟨rfl, ?_, State.offers_offer _ _ _ (s.setEqp { s.eqp with enables := v.setWidth 5 }.driveAtn)⟩⟩
      refine (atnOf_iff s.eqp.groups (v.setWidth 5)).trans (exists_congr fun g => ?_)
      rw [Group.getLsbD_setWidth]
  · exact exec_keepsEnables (writesEnables_eq_false hset hpower hreset hrequest hend) s t hexec
  · exact ⟨_, rfl, State.endRestart_enables h image⟩

end Sys2Proof.Machine
end

section
/-! PROOFS. The configuration image's two thresholds (R183, R184), and the guard, the station and the peer that name no
role. -/

namespace Sys2Proof.Machine

/-! ### The clamped-field set (R183, R192) -/

theorem getLsbD_clampedBit (j i : Nat) : (clampedBit j).getLsbD i = true ↔ i < 24 ∧ i = j := by
  have hbit : (1 <<< j).testBit i = decide (j = i) := by rw [Nat.one_shiftLeft, Nat.testBit_two_pow]
  rw [clampedBit, BitVec.natCast_eq_ofNat, BitVec.getLsbD_ofNat, hbit, Bool.and_eq_true, decide_eq_true_eq,
    decide_eq_true_eq, eq_comm (a := j)]

/-- One field's part in `clampedFields`: the set joined by the field when the clamp changes its byte. -/
def joinClamped (b : List Byte) (t : BitVec 24) (r : Nat × Nat × Nat) : BitVec 24 :=
  if clampNat r.2.1 r.2.2 (imageByte b r.1) = imageByte b r.1 then t else t ||| clampedBit r.1

theorem clampedFields_eq_foldl (b : List Byte) : clampedFields b = clampRanges.foldl (joinClamped b) 0 := rfl

theorem getLsbD_joinClamped (b : List Byte) (t : BitVec 24) (r : Nat × Nat × Nat) {i : Nat} (hi : i < 24) :
    (joinClamped b t r).getLsbD i = true ↔
      t.getLsbD i = true ∨ i = r.1 ∧ clampNat r.2.1 r.2.2 (imageByte b r.1) ≠ imageByte b r.1 := by
  unfold joinClamped
  split
  next h => simp [h]
  next h => rw [BitVec.getLsbD_or, Bool.or_eq_true, getLsbD_clampedBit, and_iff_right hi, and_iff_left h]

theorem getLsbD_foldl_joinClamped (b : List Byte) {i : Nat} (hi : i < 24) (l : List (Nat × Nat × Nat)) (t : BitVec 24) :
    (l.foldl (joinClamped b) t).getLsbD i = true ↔
      t.getLsbD i = true ∨ ∃ r ∈ l, i = r.1 ∧ clampNat r.2.1 r.2.2 (imageByte b r.1) ≠ imageByte b r.1 := by
  induction l generalizing t with
  | nil => simp
  | cons r l ih => rw [List.foldl_cons, ih, getLsbD_joinClamped b t r hi, List.exists_mem_cons_iff, or_assoc]

/-- A field is in the set exactly when it is a number field whose byte the clamp changes (R183). -/
theorem getLsbD_clampedFields (b : List Byte) {i : Nat} (hi : i < 24) :
    (clampedFields b).getLsbD i = true ↔
      ∃ r ∈ clampRanges, i = r.1 ∧ clampNat r.2.1 r.2.2 (imageByte b r.1) ≠ imageByte b r.1 := by
  rw [clampedFields_eq_foldl, getLsbD_foldl_joinClamped b hi]
  simp

theorem getLsbD_clampedFields_upper (b : List Byte) :
    (clampedFields b).getLsbD 10 = true ↔ imageByte b 10 = 0 ∨ 16 < imageByte b 10 := by
  rw [getLsbD_clampedFields b (by decide)]
  simp only [clampRanges, List.exists_mem_cons_iff, List.not_mem_nil, false_and, exists_false, or_false, true_and,
    clampNat]
  omega

theorem getLsbD_clampedFields_lower (b : List Byte) :
    (clampedFields b).getLsbD 11 = true ↔ 15 < imageByte b 11 := by
  rw [getLsbD_clampedFields b (by decide)]
  simp only [clampRanges, List.exists_mem_cons_iff, List.not_mem_nil, false_and, exists_false, or_false, true_and,
    clampNat]
  omega

/-! ### The check of the thresholds (R184) -/

theorem checkThresholds_of_le {v : Config.Values} (h : v.upper ≤ v.lower) (set : BitVec 24) :
    checkThresholds v set = ({ v with upper := 14, lower := 8 }, set ||| clampedBit 10 ||| clampedBit 11) :=
  if_pos h

theorem checkThresholds_of_lt {v : Config.Values} (h : v.lower < v.upper) (set : BitVec 24) :
    checkThresholds v set = (v, set) :=
  if_neg (Nat.not_le.2 h)

/-- The check writes the two thresholds alone. -/
theorem checkThresholds_guard_roles (v : Config.Values) (set : BitVec 24) :
    (checkThresholds v set).1.guard = v.guard ∧ (checkThresholds v set).1.guardRoles = v.guardRoles ∧
      (checkThresholds v set).1.roles = v.roles := by
  unfold checkThresholds
  split <;> exact ⟨rfl, rfl, rfl⟩

theorem imageValues_upper (b : List Byte) : (imageValues b).upper = max 1 (min 16 (imageByte b 10)) := rfl

theorem imageValues_lower (b : List Byte) : (imageValues b).lower = min 15 (imageByte b 11) := Nat.zero_max _

/-! ### The end of a restart (R182, R185, R186) -/

theorem all_erased_iff {b : List Byte} {n : Nat} (h : b.length = n) :
    b.all (· == 0xFF) = true ↔ b = List.replicate n 0xFF := by
  simp [List.eq_replicate_iff, h]

/-- An image that passes its check gives its own values and clamped fields, after the check of the thresholds. -/
theorem readImage_of_checked {image : List Byte} (hlength : image.length = 32) (herased : image ≠ List.replicate 32 0xFF)
    (hcheck : crc (bytesBits (image.take 30)) = field16 image 30) :
    (readImage image).values = (checkThresholds (imageValues image) (clampedFields image)).1 ∧
      (readImage image).clamped = (checkThresholds (imageValues image) (clampedFields image)).2 := by
  have htake : image.take 32 = image := List.take_of_length_le hlength.le
  have hall : ¬ image.all (· == 0xFF) = true := fun h => herased ((all_erased_iff hlength).1 h)
  unfold readImage
  rw [htake, if_neg hlength.not_lt, if_neg hall, if_neg (not_not_intro hcheck)]
  exact ⟨rfl, rfl⟩

/-- What the image gives is in use after the restart, and in its record (R185, R187). -/
theorem State.endRestart_values_clamped {s : State} {k : StartKind} (h : s.sul.phase = .restarting k)
    (image : List Byte) :
    (s.endRestart image).sul.values = (readImage image).values ∧
      (s.endRestart image).sul.record.clamped = (readImage image).clamped := by
  simp only [State.endRestart, h]
  generalize readImage image = r
  obtain ⟨-, hsul⟩ := (s.handOn k r).openPort.enterMode_eqp_sul k r.startMode
  rw [hsul]
  simp [State.openPort, State.handOn]

/-! ### A guard without roles (R31, R32, R184) -/

theorem State.guardRefuses_of_no_roles {s : State} (h : s.values.guardRoles = 0) (n : StationSet) :
    s.guardRefuses n = false := by
  refine List.any_eq_false.2 fun k _ => ?_
  cases (s.pcu.peer k).bind (·.roles) with
  | none => simp
  | some r => rw [h]; simp

/-- A guarded station makes no unforced take at once, whatever its mask: the request's SWEEP is queued or refused. -/
theorem State.startTake_guarded {s : State} (h : s.values.guard = true) (i : ItemId) (o : Origin) (terms : TakeTerms) :
    (s.startTake i o false terms).2 = .sweeping ∨ (s.startTake i o false terms).2 = .queueFull := by
  unfold State.startTake
  rw [if_pos (by rw [h]; rfl)]
  dsimp only
  split
  · exact .inl rfl
  · exact .inr rfl

/-! ### A station and a peer without roles (R112, R114, R184) -/

theorem State.addressed_of_no_roles {s : State} (h : s.values.roles = 0) (w : Wire) :
    s.addressed w = true ↔
      w.byNumber = true ∧ w.number = s.pcu.ownNumber ∨ w.byNumber = false ∧ w.address = 0xFF := by
  unfold State.addressed
  rw [h]
  cases w.byNumber <;> simp

theorem inSet_single_of_ne {k n : Nat} (h : n ≠ k) : inSet (single k) n = false := by
  unfold inSet single
  split
  · change (BitVec.twoPow 32 k).getLsbD n = false
    simp [BitVec.getLsbD_twoPow, h.symm]
  · exact BitVec.getLsbD_zero

theorem inSet_or (t u : StationSet) (n : Nat) : inSet (t ||| u) n = (inSet t n || inSet u n) := BitVec.getLsbD_or

/-- A frame by roles short of all stations expects no peer without roles: the other stations add their own bits alone, and
the peer itself is not named. -/
theorem State.expectedSet_of_no_roles {s : State} {a : Address} {n : Nat} {p : Peer} (hpeer : s.pcu.peer n = some p)
    (hroles : p.roles = some 0) (hform : a.byNumber = false) (hall : a.value ≠ 0xFF) :
    inSet (s.expectedSet a) n = false := by
  unfold State.expectedSet
  rw [if_neg (by simp [hform])]
  refine List.foldlRecOn (motive := fun t => inSet t n = false) _ _ BitVec.getLsbD_zero fun t ht k _ => ?_
  by_cases hk : n = k
  · subst hk
    have hnotAll : (a.value == 0xFF) = false := beq_false_of_ne hall
    simp only [hpeer, hroles, hnotAll]
    simpa using ht
  · have hjoin : inSet (t ||| single k) n = false := by rw [inSet_or, ht, inSet_single_of_ne hk]; rfl
    cases s.pcu.peer k with
    | none => exact ht
    | some e =>
      exact iteInduction (motive := fun u => inSet u n = false) (fun _ => hjoin) fun _ => ht

/-! ### The statement -/

/-- Settles O8: the image's values after the check of the thresholds are those of the restart's end; with no role to meet, the
guard's mask, the station's own test and the expected set leave out what only a shared role would bring in. -/
theorem thresholdsTogether : Obligations.ThresholdsTogether := by
  refine ⟨fun image s k hphase hlength herased hcheck => ⟨s.endRestart image, rfl, ?_⟩,
    fun _ n h => State.guardRefuses_of_no_roles h n, fun s i o terms q h hmade => ?_,
    fun _ w h => State.addressed_of_no_roles h w,
    fun _ _ _ _ hpeer hroles hform hall => State.expectedSet_of_no_roles hpeer hroles hform hall⟩
  · obtain ⟨hvalues, hclamped⟩ := State.endRestart_values_clamped hphase image
    obtain ⟨hread, hset⟩ := readImage_of_checked hlength herased hcheck
    rw [hvalues, hclamped, hread, hset, ← imageValues_upper, ← imageValues_lower]
    refine ⟨fun hle => ?_, fun hlt => ?_, checkThresholds_guard_roles _ _⟩
    · rw [checkThresholds_of_le hle]
      simp [getLsbD_clampedBit]
    · rw [checkThresholds_of_lt hlt]
      exact ⟨rfl, rfl, getLsbD_clampedFields_upper image, getLsbD_clampedFields_lower image⟩
  · rcases State.startTake_guarded h i o terms with hsweep | hfull
    · exact nomatch hmade.symm.trans hsweep
    · exact nomatch hmade.symm.trans hfull

end Sys2Proof.Machine
end
